-- ==== Sys2Proof/Word.lean ====
section
/-!
DEFINITION. The word types of the block: the 128-bit bus, the 32-bit lane, the 16-bit command word, the 2-bit status.
-/

namespace Sys2Proof

/-- An operand or result bus, 128 bits (00_scope R7, 10_state R24). -/
abbrev Bus := BitVec 128

/-- One lane of a bus, 32 bits: a binary32 float or a 32-bit integer, as the operation says (10_state R24). -/
abbrev Lane := BitVec 32

/-- The command word, 16 bits (30_encoding R60). -/
abbrev Cmd := BitVec 16

/-- The status code of a response, 2 bits (30_encoding R70). -/
abbrev StatusCode := BitVec 2

end Sys2Proof
end

