-- ==== Sys2Proof/Syntax.lean ====
section
/-!
DEFINITION. The syntax: the 18 packed formats (30_encoding R66) and the instructions, one constructor per row of the
opcode table (30_encoding R61, R62). There are no register fields: the operands are always the buses `A`, `B_op`, `C` of
the request and the result is always `R` (30_encoding R60, R64). Only ENCS carries an operand, its element count `LEN`
(30_encoding R63).
-/

namespace Sys2Proof

/-- The five policy families of the formats (00_scope R16, 30_encoding R66). -/
inductive Family where
  | rawUnsigned
  | rawSigned
  | unsignedNorm
  | signedNorm
  | half
  deriving DecidableEq, Repr

/-- The 18 packed formats (00_scope R3, 30_encoding R66), in the order of their codes. -/
inductive Format where
  | uByte2
  | uByte4
  | uShort2
  | uShort4
  | byte2
  | byte4
  | short2
  | short4
  | uByte2N
  | uByte4N
  | uShort2N
  | uShort4N
  | byte2N
  | byte4N
  | short2N
  | short4N
  | half2
  | half4
  deriving DecidableEq, Repr

/-- The instructions, one constructor per row of the opcode table. The docstrings give the row's mnemonic, the word (for
ENCS the word of `LEN = 0`) and the rule of spec/ that defines it. -/
inductive Instr where
  /-- `FROMP.UByte2`, word 0x0001, R131. -/
  | frompUByte2
  /-- `FROMP.UByte4`, word 0x0011, R131. -/
  | frompUByte4
  /-- `FROMP.UShort2`, word 0x0021, R131. -/
  | frompUShort2
  /-- `FROMP.UShort4`, word 0x0031, R131. -/
  | frompUShort4
  /-- `FROMP.Byte2`, word 0x0041, R131. -/
  | frompByte2
  /-- `FROMP.Byte4`, word 0x0051, R131. -/
  | frompByte4
  /-- `FROMP.Short2`, word 0x0061, R131. -/
  | frompShort2
  /-- `FROMP.Short4`, word 0x0071, R131. -/
  | frompShort4
  /-- `FROMP.UByte2N`, word 0x0081, R131. -/
  | frompUByte2N
  /-- `FROMP.UByte4N`, word 0x0091, R131. -/
  | frompUByte4N
  /-- `FROMP.UShort2N`, word 0x00A1, R131. -/
  | frompUShort2N
  /-- `FROMP.UShort4N`, word 0x00B1, R131. -/
  | frompUShort4N
  /-- `FROMP.Byte2N`, word 0x00C1, R131. -/
  | frompByte2N
  /-- `FROMP.Byte4N`, word 0x00D1, R131. -/
  | frompByte4N
  /-- `FROMP.Short2N`, word 0x00E1, R131. -/
  | frompShort2N
  /-- `FROMP.Short4N`, word 0x00F1, R131. -/
  | frompShort4N
  /-- `FROMP.Half2`, word 0x0121, R131. -/
  | frompHalf2
  /-- `FROMP.Half4`, word 0x0131, R131. -/
  | frompHalf4
  /-- `PACK.UByte2`, word 0x0002, R134. -/
  | packUByte2
  /-- `PACK.UByte4`, word 0x0012, R134. -/
  | packUByte4
  /-- `PACK.UShort2`, word 0x0022, R134. -/
  | packUShort2
  /-- `PACK.UShort4`, word 0x0032, R134. -/
  | packUShort4
  /-- `PACK.Byte2`, word 0x0042, R134. -/
  | packByte2
  /-- `PACK.Byte4`, word 0x0052, R134. -/
  | packByte4
  /-- `PACK.Short2`, word 0x0062, R134. -/
  | packShort2
  /-- `PACK.Short4`, word 0x0072, R134. -/
  | packShort4
  /-- `PACK.UByte2N`, word 0x0082, R134. -/
  | packUByte2N
  /-- `PACK.UByte4N`, word 0x0092, R134. -/
  | packUByte4N
  /-- `PACK.UShort2N`, word 0x00A2, R134. -/
  | packUShort2N
  /-- `PACK.UShort4N`, word 0x00B2, R134. -/
  | packUShort4N
  /-- `PACK.Byte2N`, word 0x00C2, R134. -/
  | packByte2N
  /-- `PACK.Byte4N`, word 0x00D2, R134. -/
  | packByte4N
  /-- `PACK.Short2N`, word 0x00E2, R134. -/
  | packShort2N
  /-- `PACK.Short4N`, word 0x00F2, R134. -/
  | packShort4N
  /-- `PACK.Half2`, word 0x0122, R134. -/
  | packHalf2
  /-- `PACK.Half4`, word 0x0132, R134. -/
  | packHalf4
  /-- `UNPACK.UByte2`, word 0x0003, R137. -/
  | unpackUByte2
  /-- `UNPACK.UByte4`, word 0x0013, R137. -/
  | unpackUByte4
  /-- `UNPACK.UShort2`, word 0x0023, R137. -/
  | unpackUShort2
  /-- `UNPACK.UShort4`, word 0x0033, R137. -/
  | unpackUShort4
  /-- `UNPACK.Byte2`, word 0x0043, R137. -/
  | unpackByte2
  /-- `UNPACK.Byte4`, word 0x0053, R137. -/
  | unpackByte4
  /-- `UNPACK.Short2`, word 0x0063, R137. -/
  | unpackShort2
  /-- `UNPACK.Short4`, word 0x0073, R137. -/
  | unpackShort4
  /-- `UNPACK.UByte2N`, word 0x0083, R137. -/
  | unpackUByte2N
  /-- `UNPACK.UByte4N`, word 0x0093, R137. -/
  | unpackUByte4N
  /-- `UNPACK.UShort2N`, word 0x00A3, R137. -/
  | unpackUShort2N
  /-- `UNPACK.UShort4N`, word 0x00B3, R137. -/
  | unpackUShort4N
  /-- `UNPACK.Byte2N`, word 0x00C3, R137. -/
  | unpackByte2N
  /-- `UNPACK.Byte4N`, word 0x00D3, R137. -/
  | unpackByte4N
  /-- `UNPACK.Short2N`, word 0x00E3, R137. -/
  | unpackShort2N
  /-- `UNPACK.Short4N`, word 0x00F3, R137. -/
  | unpackShort4N
  /-- `UNPACK.Half2`, word 0x0123, R137. -/
  | unpackHalf2
  /-- `UNPACK.Half4`, word 0x0133, R137. -/
  | unpackHalf4
  /-- `ENC.UByte2`, word 0x0004, R168. -/
  | encUByte2
  /-- `ENC.UByte4`, word 0x0014, R169. -/
  | encUByte4
  /-- `ENC.UShort2`, word 0x0024, R170. -/
  | encUShort2
  /-- `ENC.UShort4`, word 0x0034, R171. -/
  | encUShort4
  /-- `ENC.Byte2`, word 0x0044, R172. -/
  | encByte2
  /-- `ENC.Byte4`, word 0x0054, R173. -/
  | encByte4
  /-- `ENC.Short2`, word 0x0064, R174. -/
  | encShort2
  /-- `ENC.Short4`, word 0x0074, R175. -/
  | encShort4
  /-- `ENC.UByte2N`, word 0x0084, R176. -/
  | encUByte2N
  /-- `ENC.UByte4N`, word 0x0094, R177. -/
  | encUByte4N
  /-- `ENC.UShort2N`, word 0x00A4, R178. -/
  | encUShort2N
  /-- `ENC.UShort4N`, word 0x00B4, R179. -/
  | encUShort4N
  /-- `ENC.Byte2N`, word 0x00C4, R180. -/
  | encByte2N
  /-- `ENC.Byte4N`, word 0x00D4, R181. -/
  | encByte4N
  /-- `ENC.Short2N`, word 0x00E4, R182. -/
  | encShort2N
  /-- `ENC.Short4N`, word 0x00F4, R183. -/
  | encShort4N
  /-- `ENC.Half2`, word 0x0124, R184. -/
  | encHalf2
  /-- `ENC.Half4`, word 0x0134, R185. -/
  | encHalf4
  /-- `ENCS.UByte2`, word 0x0005, R190. -/
  | encsUByte2 (len : Nat)
  /-- `ENCS.UByte4`, word 0x0015, R190. -/
  | encsUByte4 (len : Nat)
  /-- `ENCS.UShort2`, word 0x0025, R190. -/
  | encsUShort2 (len : Nat)
  /-- `ENCS.UShort4`, word 0x0035, R190. -/
  | encsUShort4 (len : Nat)
  /-- `ENCS.Byte2`, word 0x0045, R190. -/
  | encsByte2 (len : Nat)
  /-- `ENCS.Byte4`, word 0x0055, R190. -/
  | encsByte4 (len : Nat)
  /-- `ENCS.Short2`, word 0x0065, R190. -/
  | encsShort2 (len : Nat)
  /-- `ENCS.Short4`, word 0x0075, R190. -/
  | encsShort4 (len : Nat)
  /-- `ENCS.UByte2N`, word 0x0085, R190. -/
  | encsUByte2N (len : Nat)
  /-- `ENCS.UByte4N`, word 0x0095, R190. -/
  | encsUByte4N (len : Nat)
  /-- `ENCS.UShort2N`, word 0x00A5, R190. -/
  | encsUShort2N (len : Nat)
  /-- `ENCS.UShort4N`, word 0x00B5, R190. -/
  | encsUShort4N (len : Nat)
  /-- `ENCS.Byte2N`, word 0x00C5, R190. -/
  | encsByte2N (len : Nat)
  /-- `ENCS.Byte4N`, word 0x00D5, R190. -/
  | encsByte4N (len : Nat)
  /-- `ENCS.Short2N`, word 0x00E5, R190. -/
  | encsShort2N (len : Nat)
  /-- `ENCS.Short4N`, word 0x00F5, R190. -/
  | encsShort4N (len : Nat)
  /-- `ENCS.Half2`, word 0x0125, R190. -/
  | encsHalf2 (len : Nat)
  /-- `ENCS.Half4`, word 0x0135, R190. -/
  | encsHalf4 (len : Nat)
  /-- `DEC.UByte2`, word 0x0006, R208. -/
  | decUByte2
  /-- `DEC.UByte4`, word 0x0016, R209. -/
  | decUByte4
  /-- `DEC.UShort2`, word 0x0026, R210. -/
  | decUShort2
  /-- `DEC.UShort4`, word 0x0036, R211. -/
  | decUShort4
  /-- `DEC.Byte2`, word 0x0046, R212. -/
  | decByte2
  /-- `DEC.Byte4`, word 0x0056, R213. -/
  | decByte4
  /-- `DEC.Short2`, word 0x0066, R214. -/
  | decShort2
  /-- `DEC.Short4`, word 0x0076, R215. -/
  | decShort4
  /-- `DEC.UByte2N`, word 0x0086, R216. -/
  | decUByte2N
  /-- `DEC.UByte4N`, word 0x0096, R217. -/
  | decUByte4N
  /-- `DEC.UShort2N`, word 0x00A6, R218. -/
  | decUShort2N
  /-- `DEC.UShort4N`, word 0x00B6, R219. -/
  | decUShort4N
  /-- `DEC.Byte2N`, word 0x00C6, R220. -/
  | decByte2N
  /-- `DEC.Byte4N`, word 0x00D6, R221. -/
  | decByte4N
  /-- `DEC.Short2N`, word 0x00E6, R222. -/
  | decShort2N
  /-- `DEC.Short4N`, word 0x00F6, R223. -/
  | decShort4N
  /-- `DEC.Half2`, word 0x0126, R224. -/
  | decHalf2
  /-- `DEC.Half4`, word 0x0136, R225. -/
  | decHalf4
  /-- `CMPEQ.UByte2`, word 0x0007, R140. -/
  | cmpeqUByte2
  /-- `CMPEQ.UByte4`, word 0x0017, R140. -/
  | cmpeqUByte4
  /-- `CMPEQ.UShort2`, word 0x0027, R140. -/
  | cmpeqUShort2
  /-- `CMPEQ.UShort4`, word 0x0037, R140. -/
  | cmpeqUShort4
  /-- `CMPEQ.Byte2`, word 0x0047, R140. -/
  | cmpeqByte2
  /-- `CMPEQ.Byte4`, word 0x0057, R140. -/
  | cmpeqByte4
  /-- `CMPEQ.Short2`, word 0x0067, R140. -/
  | cmpeqShort2
  /-- `CMPEQ.Short4`, word 0x0077, R140. -/
  | cmpeqShort4
  /-- `CMPEQ.UByte2N`, word 0x0087, R140. -/
  | cmpeqUByte2N
  /-- `CMPEQ.UByte4N`, word 0x0097, R140. -/
  | cmpeqUByte4N
  /-- `CMPEQ.UShort2N`, word 0x00A7, R140. -/
  | cmpeqUShort2N
  /-- `CMPEQ.UShort4N`, word 0x00B7, R140. -/
  | cmpeqUShort4N
  /-- `CMPEQ.Byte2N`, word 0x00C7, R140. -/
  | cmpeqByte2N
  /-- `CMPEQ.Byte4N`, word 0x00D7, R140. -/
  | cmpeqByte4N
  /-- `CMPEQ.Short2N`, word 0x00E7, R140. -/
  | cmpeqShort2N
  /-- `CMPEQ.Short4N`, word 0x00F7, R140. -/
  | cmpeqShort4N
  /-- `CMPEQ.Half2`, word 0x0127, R140. -/
  | cmpeqHalf2
  /-- `CMPEQ.Half4`, word 0x0137, R140. -/
  | cmpeqHalf4
  /-- `VCLAMP.2`, word 0x0008, R105. -/
  | vclamp2
  /-- `VCLAMP.4`, word 0x0018, R105. -/
  | vclamp4
  /-- `VROUND.2`, word 0x0009, R107. -/
  | vround2
  /-- `VROUND.4`, word 0x0019, R107. -/
  | vround4
  /-- `VTRUNC.2`, word 0x000A, R109. -/
  | vtrunc2
  /-- `VTRUNC.4`, word 0x001A, R109. -/
  | vtrunc4
  /-- `VSAT.2`, word 0x000B, R111. -/
  | vsat2
  /-- `VSAT.4`, word 0x001B, R111. -/
  | vsat4
  /-- `VMADD.2`, word 0x000C, R113. -/
  | vmadd2
  /-- `VMADD.4`, word 0x001C, R113. -/
  | vmadd4
  deriving DecidableEq, Repr

/-- The two lane counts of the helper operations: 2 lanes or 4 (30_encoding R62, 40_helper_kernel R101). -/
inductive Lanes where
  | two
  | four
  deriving DecidableEq, Repr

/-- The fields of a command word that choose its meaning: `OP`, `FMT`, `LEN` (30_encoding R60). -/
structure CmdFields where
  op : Nat
  fmt : Nat
  len : Nat
  deriving DecidableEq, Repr

/-- Why a command word is illegal: the five conditions of 30_encoding R71, in its order. -/
inductive Reject where
  /-- R71.1: `RSV = cmd[15:12]` is not `0000`. -/
  | reservedBits
  /-- R71.2: `OP` is `0x0`, `0xD`, `0xE` or `0xF`. -/
  | reservedOp
  /-- R71.3: `OP` is in `0x1..0x7` and `FMT` is not one of the 18 codes. -/
  | reservedFormat
  /-- R71.4: `OP` is in `0x8..0xC` and `FMT[4:1]` is not `0000`. -/
  | helperFormat
  /-- R71.5: `OP` is not `0x5` (ENCS) and `LEN` is not `000`. -/
  | lengthNotZero
  deriving DecidableEq, Repr

end Sys2Proof
end

