-- ==== Sys2Proof/WellFormed.lean ====
section
/-!
DEFINITION. Well-formedness: the one operand an instruction carries, `LEN` of ENCS, is a 3-bit count (30_encoding R63).
-/

namespace Sys2Proof

/-- `LEN` fits its field: 0 to 7 (30_encoding R63). -/
def lenFits (len : Nat) : Bool := decide (len < 8)

/-- An instruction is well formed when its element count fits the `LEN` field; the others carry no operand. -/
def Instr.wellFormed : Instr → Bool
  | .frompUByte2 => true
  | .frompUByte4 => true
  | .frompUShort2 => true
  | .frompUShort4 => true
  | .frompByte2 => true
  | .frompByte4 => true
  | .frompShort2 => true
  | .frompShort4 => true
  | .frompUByte2N => true
  | .frompUByte4N => true
  | .frompUShort2N => true
  | .frompUShort4N => true
  | .frompByte2N => true
  | .frompByte4N => true
  | .frompShort2N => true
  | .frompShort4N => true
  | .frompHalf2 => true
  | .frompHalf4 => true
  | .packUByte2 => true
  | .packUByte4 => true
  | .packUShort2 => true
  | .packUShort4 => true
  | .packByte2 => true
  | .packByte4 => true
  | .packShort2 => true
  | .packShort4 => true
  | .packUByte2N => true
  | .packUByte4N => true
  | .packUShort2N => true
  | .packUShort4N => true
  | .packByte2N => true
  | .packByte4N => true
  | .packShort2N => true
  | .packShort4N => true
  | .packHalf2 => true
  | .packHalf4 => true
  | .unpackUByte2 => true
  | .unpackUByte4 => true
  | .unpackUShort2 => true
  | .unpackUShort4 => true
  | .unpackByte2 => true
  | .unpackByte4 => true
  | .unpackShort2 => true
  | .unpackShort4 => true
  | .unpackUByte2N => true
  | .unpackUByte4N => true
  | .unpackUShort2N => true
  | .unpackUShort4N => true
  | .unpackByte2N => true
  | .unpackByte4N => true
  | .unpackShort2N => true
  | .unpackShort4N => true
  | .unpackHalf2 => true
  | .unpackHalf4 => true
  | .encUByte2 => true
  | .encUByte4 => true
  | .encUShort2 => true
  | .encUShort4 => true
  | .encByte2 => true
  | .encByte4 => true
  | .encShort2 => true
  | .encShort4 => true
  | .encUByte2N => true
  | .encUByte4N => true
  | .encUShort2N => true
  | .encUShort4N => true
  | .encByte2N => true
  | .encByte4N => true
  | .encShort2N => true
  | .encShort4N => true
  | .encHalf2 => true
  | .encHalf4 => true
  | .encsUByte2 len => lenFits len
  | .encsUByte4 len => lenFits len
  | .encsUShort2 len => lenFits len
  | .encsUShort4 len => lenFits len
  | .encsByte2 len => lenFits len
  | .encsByte4 len => lenFits len
  | .encsShort2 len => lenFits len
  | .encsShort4 len => lenFits len
  | .encsUByte2N len => lenFits len
  | .encsUByte4N len => lenFits len
  | .encsUShort2N len => lenFits len
  | .encsUShort4N len => lenFits len
  | .encsByte2N len => lenFits len
  | .encsByte4N len => lenFits len
  | .encsShort2N len => lenFits len
  | .encsShort4N len => lenFits len
  | .encsHalf2 len => lenFits len
  | .encsHalf4 len => lenFits len
  | .decUByte2 => true
  | .decUByte4 => true
  | .decUShort2 => true
  | .decUShort4 => true
  | .decByte2 => true
  | .decByte4 => true
  | .decShort2 => true
  | .decShort4 => true
  | .decUByte2N => true
  | .decUByte4N => true
  | .decUShort2N => true
  | .decUShort4N => true
  | .decByte2N => true
  | .decByte4N => true
  | .decShort2N => true
  | .decShort4N => true
  | .decHalf2 => true
  | .decHalf4 => true
  | .cmpeqUByte2 => true
  | .cmpeqUByte4 => true
  | .cmpeqUShort2 => true
  | .cmpeqUShort4 => true
  | .cmpeqByte2 => true
  | .cmpeqByte4 => true
  | .cmpeqShort2 => true
  | .cmpeqShort4 => true
  | .cmpeqUByte2N => true
  | .cmpeqUByte4N => true
  | .cmpeqUShort2N => true
  | .cmpeqUShort4N => true
  | .cmpeqByte2N => true
  | .cmpeqByte4N => true
  | .cmpeqShort2N => true
  | .cmpeqShort4N => true
  | .cmpeqHalf2 => true
  | .cmpeqHalf4 => true
  | .vclamp2 => true
  | .vclamp4 => true
  | .vround2 => true
  | .vround4 => true
  | .vtrunc2 => true
  | .vtrunc4 => true
  | .vsat2 => true
  | .vsat4 => true
  | .vmadd2 => true
  | .vmadd4 => true

end Sys2Proof
end

