-- ==== Sys2Proof/Decode.lean ====
section
/-!
DEFINITION. The decoder of command words, total, rejecting by name (30_encoding R60 to R66, R71), and after it the encoder,
written from the same tables. Decoding reads the command word alone (30_encoding R65).
-/

namespace Sys2Proof

/-- The format code `FMT` (30_encoding R66). -/
def Format.code : Format → Nat
  | .uByte2 => 0x00
  | .uByte4 => 0x01
  | .uShort2 => 0x02
  | .uShort4 => 0x03
  | .byte2 => 0x04
  | .byte4 => 0x05
  | .short2 => 0x06
  | .short4 => 0x07
  | .uByte2N => 0x08
  | .uByte4N => 0x09
  | .uShort2N => 0x0A
  | .uShort4N => 0x0B
  | .byte2N => 0x0C
  | .byte4N => 0x0D
  | .short2N => 0x0E
  | .short4N => 0x0F
  | .half2 => 0x12
  | .half4 => 0x13

/-- The format of a code; codes `0x10`, `0x11`, `0x14` to `0x1F` are reserved (30_encoding R66, R71). -/
def Format.ofCode : Nat → Option Format
  | 0x00 => some .uByte2
  | 0x01 => some .uByte4
  | 0x02 => some .uShort2
  | 0x03 => some .uShort4
  | 0x04 => some .byte2
  | 0x05 => some .byte4
  | 0x06 => some .short2
  | 0x07 => some .short4
  | 0x08 => some .uByte2N
  | 0x09 => some .uByte4N
  | 0x0A => some .uShort2N
  | 0x0B => some .uShort4N
  | 0x0C => some .byte2N
  | 0x0D => some .byte4N
  | 0x0E => some .short2N
  | 0x0F => some .short4N
  | 0x12 => some .half2
  | 0x13 => some .half4
  | _ => none

/-- The `FMT` field of a helper command: bit 0 selects 4 lanes, bits 4..1 are zero (30_encoding R62). -/
def Lanes.code : Lanes → Nat
  | .two => 0
  | .four => 1

/-- The lane count of a helper command's `FMT` field; any other field is illegal (30_encoding R62, R71). -/
def Lanes.ofCode : Nat → Option Lanes
  | 0 => some .two
  | 1 => some .four
  | _ => none

/-- The `FROMP` instruction of a format, `OP = 0x1` (30_encoding R61). -/
def Instr.fromp : Format → Instr
  | .uByte2 => .frompUByte2
  | .uByte4 => .frompUByte4
  | .uShort2 => .frompUShort2
  | .uShort4 => .frompUShort4
  | .byte2 => .frompByte2
  | .byte4 => .frompByte4
  | .short2 => .frompShort2
  | .short4 => .frompShort4
  | .uByte2N => .frompUByte2N
  | .uByte4N => .frompUByte4N
  | .uShort2N => .frompUShort2N
  | .uShort4N => .frompUShort4N
  | .byte2N => .frompByte2N
  | .byte4N => .frompByte4N
  | .short2N => .frompShort2N
  | .short4N => .frompShort4N
  | .half2 => .frompHalf2
  | .half4 => .frompHalf4

/-- The `PACK` instruction of a format, `OP = 0x2` (30_encoding R61). -/
def Instr.pack : Format → Instr
  | .uByte2 => .packUByte2
  | .uByte4 => .packUByte4
  | .uShort2 => .packUShort2
  | .uShort4 => .packUShort4
  | .byte2 => .packByte2
  | .byte4 => .packByte4
  | .short2 => .packShort2
  | .short4 => .packShort4
  | .uByte2N => .packUByte2N
  | .uByte4N => .packUByte4N
  | .uShort2N => .packUShort2N
  | .uShort4N => .packUShort4N
  | .byte2N => .packByte2N
  | .byte4N => .packByte4N
  | .short2N => .packShort2N
  | .short4N => .packShort4N
  | .half2 => .packHalf2
  | .half4 => .packHalf4

/-- The `UNPACK` instruction of a format, `OP = 0x3` (30_encoding R61). -/
def Instr.unpack : Format → Instr
  | .uByte2 => .unpackUByte2
  | .uByte4 => .unpackUByte4
  | .uShort2 => .unpackUShort2
  | .uShort4 => .unpackUShort4
  | .byte2 => .unpackByte2
  | .byte4 => .unpackByte4
  | .short2 => .unpackShort2
  | .short4 => .unpackShort4
  | .uByte2N => .unpackUByte2N
  | .uByte4N => .unpackUByte4N
  | .uShort2N => .unpackUShort2N
  | .uShort4N => .unpackUShort4N
  | .byte2N => .unpackByte2N
  | .byte4N => .unpackByte4N
  | .short2N => .unpackShort2N
  | .short4N => .unpackShort4N
  | .half2 => .unpackHalf2
  | .half4 => .unpackHalf4

/-- The `ENC` instruction of a format, `OP = 0x4` (30_encoding R61). -/
def Instr.enc : Format → Instr
  | .uByte2 => .encUByte2
  | .uByte4 => .encUByte4
  | .uShort2 => .encUShort2
  | .uShort4 => .encUShort4
  | .byte2 => .encByte2
  | .byte4 => .encByte4
  | .short2 => .encShort2
  | .short4 => .encShort4
  | .uByte2N => .encUByte2N
  | .uByte4N => .encUByte4N
  | .uShort2N => .encUShort2N
  | .uShort4N => .encUShort4N
  | .byte2N => .encByte2N
  | .byte4N => .encByte4N
  | .short2N => .encShort2N
  | .short4N => .encShort4N
  | .half2 => .encHalf2
  | .half4 => .encHalf4

/-- The `ENCS` instruction of a format, `OP = 0x5` (30_encoding R61). -/
def Instr.encs (len : Nat) : Format → Instr
  | .uByte2 => .encsUByte2 len
  | .uByte4 => .encsUByte4 len
  | .uShort2 => .encsUShort2 len
  | .uShort4 => .encsUShort4 len
  | .byte2 => .encsByte2 len
  | .byte4 => .encsByte4 len
  | .short2 => .encsShort2 len
  | .short4 => .encsShort4 len
  | .uByte2N => .encsUByte2N len
  | .uByte4N => .encsUByte4N len
  | .uShort2N => .encsUShort2N len
  | .uShort4N => .encsUShort4N len
  | .byte2N => .encsByte2N len
  | .byte4N => .encsByte4N len
  | .short2N => .encsShort2N len
  | .short4N => .encsShort4N len
  | .half2 => .encsHalf2 len
  | .half4 => .encsHalf4 len

/-- The `DEC` instruction of a format, `OP = 0x6` (30_encoding R61). -/
def Instr.dec : Format → Instr
  | .uByte2 => .decUByte2
  | .uByte4 => .decUByte4
  | .uShort2 => .decUShort2
  | .uShort4 => .decUShort4
  | .byte2 => .decByte2
  | .byte4 => .decByte4
  | .short2 => .decShort2
  | .short4 => .decShort4
  | .uByte2N => .decUByte2N
  | .uByte4N => .decUByte4N
  | .uShort2N => .decUShort2N
  | .uShort4N => .decUShort4N
  | .byte2N => .decByte2N
  | .byte4N => .decByte4N
  | .short2N => .decShort2N
  | .short4N => .decShort4N
  | .half2 => .decHalf2
  | .half4 => .decHalf4

/-- The `CMPEQ` instruction of a format, `OP = 0x7` (30_encoding R61). -/
def Instr.cmpeq : Format → Instr
  | .uByte2 => .cmpeqUByte2
  | .uByte4 => .cmpeqUByte4
  | .uShort2 => .cmpeqUShort2
  | .uShort4 => .cmpeqUShort4
  | .byte2 => .cmpeqByte2
  | .byte4 => .cmpeqByte4
  | .short2 => .cmpeqShort2
  | .short4 => .cmpeqShort4
  | .uByte2N => .cmpeqUByte2N
  | .uByte4N => .cmpeqUByte4N
  | .uShort2N => .cmpeqUShort2N
  | .uShort4N => .cmpeqUShort4N
  | .byte2N => .cmpeqByte2N
  | .byte4N => .cmpeqByte4N
  | .short2N => .cmpeqShort2N
  | .short4N => .cmpeqShort4N
  | .half2 => .cmpeqHalf2
  | .half4 => .cmpeqHalf4

/-- The `VCLAMP` instruction of a lane count, `OP = 0x8` (30_encoding R61, R62). -/
def Instr.vclamp : Lanes → Instr
  | .two => .vclamp2
  | .four => .vclamp4

/-- The `VROUND` instruction of a lane count, `OP = 0x9` (30_encoding R61, R62). -/
def Instr.vround : Lanes → Instr
  | .two => .vround2
  | .four => .vround4

/-- The `VTRUNC` instruction of a lane count, `OP = 0xA` (30_encoding R61, R62). -/
def Instr.vtrunc : Lanes → Instr
  | .two => .vtrunc2
  | .four => .vtrunc4

/-- The `VSAT` instruction of a lane count, `OP = 0xB` (30_encoding R61, R62). -/
def Instr.vsat : Lanes → Instr
  | .two => .vsat2
  | .four => .vsat4

/-- The `VMADD` instruction of a lane count, `OP = 0xC` (30_encoding R61, R62). -/
def Instr.vmadd : Lanes → Instr
  | .two => .vmadd2
  | .four => .vmadd4

/-- The four fields of a command word: `RSV = cmd[15:12]` (30_encoding R60). -/
def cmdRsv (w : Cmd) : Nat := (w.extractLsb' 12 4).toNat

/-- `LEN = cmd[11:9]` (30_encoding R60, R63). -/
def cmdLen (w : Cmd) : Nat := (w.extractLsb' 9 3).toNat

/-- `FMT = cmd[8:4]` (30_encoding R60, R62). -/
def cmdFmt (w : Cmd) : Nat := (w.extractLsb' 4 5).toNat

/-- `OP = cmd[3:0]` (30_encoding R60, R61). -/
def cmdOp (w : Cmd) : Nat := (w.extractLsb' 0 4).toNat

/-- A format operation: `FMT` must be one of the 18 codes (30_encoding R71.3). -/
def needFormat (fmt : Nat) (make : Format → Instr) : Except Reject Instr :=
  match Format.ofCode fmt with
  | some f => .ok (make f)
  | none => .error .reservedFormat

/-- A helper operation: `FMT[4:1]` must be `0000` (30_encoding R71.4). -/
def needLanes (fmt : Nat) (make : Lanes → Instr) : Except Reject Instr :=
  match Lanes.ofCode fmt with
  | some n => .ok (make n)
  | none => .error .helperFormat

/-- Every operation but ENCS needs `LEN = 000` (30_encoding R71.5). -/
def needNoLen (len : Nat) (r : Except Reject Instr) : Except Reject Instr :=
  match r with
  | .error e => .error e
  | .ok i => if len = 0 then .ok i else .error .lengthNotZero

/-- The operation of an `OP` value with its format or lane count (30_encoding R61, R71). -/
def decodeOp (op fmt len : Nat) : Except Reject Instr :=
  match op with
  | 0x1 => needNoLen len (needFormat fmt Instr.fromp)
  | 0x2 => needNoLen len (needFormat fmt Instr.pack)
  | 0x3 => needNoLen len (needFormat fmt Instr.unpack)
  | 0x4 => needNoLen len (needFormat fmt Instr.enc)
  | 0x5 => needFormat fmt (Instr.encs len)
  | 0x6 => needNoLen len (needFormat fmt Instr.dec)
  | 0x7 => needNoLen len (needFormat fmt Instr.cmpeq)
  | 0x8 => needNoLen len (needLanes fmt Instr.vclamp)
  | 0x9 => needNoLen len (needLanes fmt Instr.vround)
  | 0xA => needNoLen len (needLanes fmt Instr.vtrunc)
  | 0xB => needNoLen len (needLanes fmt Instr.vsat)
  | 0xC => needNoLen len (needLanes fmt Instr.vmadd)
  | _ => .error .reservedOp

/-- Decoding a command word is total: exactly one instruction, or illegal for a named reason (30_encoding R65, R71). -/
def decode (w : Cmd) : Except Reject Instr :=
  if cmdRsv w = 0 then decodeOp (cmdOp w) (cmdFmt w) (cmdLen w) else .error .reservedBits

/-- The decoder on a row of the opcode table: bit 0 of `w` is bit 0 of the command word, which is delivered whole and has
16 bits (30_encoding R60, 20_memory R45); a longer word is none. -/
def decodeTableWord (nbits w : Nat) : Option Instr :=
  if w % 2 ^ nbits < 2 ^ 16 then
    match decode (BitVec.ofNat 16 (w % 2 ^ nbits)) with
    | .ok i => some i
    | .error _ => none
  else none

/-- The fields of each instruction's command word, row by row of the opcode table (30_encoding R60, R61, R66). -/
def Instr.fields : Instr → CmdFields
  | .frompUByte2 => ⟨0x1, 0x00, 0⟩
  | .frompUByte4 => ⟨0x1, 0x01, 0⟩
  | .frompUShort2 => ⟨0x1, 0x02, 0⟩
  | .frompUShort4 => ⟨0x1, 0x03, 0⟩
  | .frompByte2 => ⟨0x1, 0x04, 0⟩
  | .frompByte4 => ⟨0x1, 0x05, 0⟩
  | .frompShort2 => ⟨0x1, 0x06, 0⟩
  | .frompShort4 => ⟨0x1, 0x07, 0⟩
  | .frompUByte2N => ⟨0x1, 0x08, 0⟩
  | .frompUByte4N => ⟨0x1, 0x09, 0⟩
  | .frompUShort2N => ⟨0x1, 0x0A, 0⟩
  | .frompUShort4N => ⟨0x1, 0x0B, 0⟩
  | .frompByte2N => ⟨0x1, 0x0C, 0⟩
  | .frompByte4N => ⟨0x1, 0x0D, 0⟩
  | .frompShort2N => ⟨0x1, 0x0E, 0⟩
  | .frompShort4N => ⟨0x1, 0x0F, 0⟩
  | .frompHalf2 => ⟨0x1, 0x12, 0⟩
  | .frompHalf4 => ⟨0x1, 0x13, 0⟩
  | .packUByte2 => ⟨0x2, 0x00, 0⟩
  | .packUByte4 => ⟨0x2, 0x01, 0⟩
  | .packUShort2 => ⟨0x2, 0x02, 0⟩
  | .packUShort4 => ⟨0x2, 0x03, 0⟩
  | .packByte2 => ⟨0x2, 0x04, 0⟩
  | .packByte4 => ⟨0x2, 0x05, 0⟩
  | .packShort2 => ⟨0x2, 0x06, 0⟩
  | .packShort4 => ⟨0x2, 0x07, 0⟩
  | .packUByte2N => ⟨0x2, 0x08, 0⟩
  | .packUByte4N => ⟨0x2, 0x09, 0⟩
  | .packUShort2N => ⟨0x2, 0x0A, 0⟩
  | .packUShort4N => ⟨0x2, 0x0B, 0⟩
  | .packByte2N => ⟨0x2, 0x0C, 0⟩
  | .packByte4N => ⟨0x2, 0x0D, 0⟩
  | .packShort2N => ⟨0x2, 0x0E, 0⟩
  | .packShort4N => ⟨0x2, 0x0F, 0⟩
  | .packHalf2 => ⟨0x2, 0x12, 0⟩
  | .packHalf4 => ⟨0x2, 0x13, 0⟩
  | .unpackUByte2 => ⟨0x3, 0x00, 0⟩
  | .unpackUByte4 => ⟨0x3, 0x01, 0⟩
  | .unpackUShort2 => ⟨0x3, 0x02, 0⟩
  | .unpackUShort4 => ⟨0x3, 0x03, 0⟩
  | .unpackByte2 => ⟨0x3, 0x04, 0⟩
  | .unpackByte4 => ⟨0x3, 0x05, 0⟩
  | .unpackShort2 => ⟨0x3, 0x06, 0⟩
  | .unpackShort4 => ⟨0x3, 0x07, 0⟩
  | .unpackUByte2N => ⟨0x3, 0x08, 0⟩
  | .unpackUByte4N => ⟨0x3, 0x09, 0⟩
  | .unpackUShort2N => ⟨0x3, 0x0A, 0⟩
  | .unpackUShort4N => ⟨0x3, 0x0B, 0⟩
  | .unpackByte2N => ⟨0x3, 0x0C, 0⟩
  | .unpackByte4N => ⟨0x3, 0x0D, 0⟩
  | .unpackShort2N => ⟨0x3, 0x0E, 0⟩
  | .unpackShort4N => ⟨0x3, 0x0F, 0⟩
  | .unpackHalf2 => ⟨0x3, 0x12, 0⟩
  | .unpackHalf4 => ⟨0x3, 0x13, 0⟩
  | .encUByte2 => ⟨0x4, 0x00, 0⟩
  | .encUByte4 => ⟨0x4, 0x01, 0⟩
  | .encUShort2 => ⟨0x4, 0x02, 0⟩
  | .encUShort4 => ⟨0x4, 0x03, 0⟩
  | .encByte2 => ⟨0x4, 0x04, 0⟩
  | .encByte4 => ⟨0x4, 0x05, 0⟩
  | .encShort2 => ⟨0x4, 0x06, 0⟩
  | .encShort4 => ⟨0x4, 0x07, 0⟩
  | .encUByte2N => ⟨0x4, 0x08, 0⟩
  | .encUByte4N => ⟨0x4, 0x09, 0⟩
  | .encUShort2N => ⟨0x4, 0x0A, 0⟩
  | .encUShort4N => ⟨0x4, 0x0B, 0⟩
  | .encByte2N => ⟨0x4, 0x0C, 0⟩
  | .encByte4N => ⟨0x4, 0x0D, 0⟩
  | .encShort2N => ⟨0x4, 0x0E, 0⟩
  | .encShort4N => ⟨0x4, 0x0F, 0⟩
  | .encHalf2 => ⟨0x4, 0x12, 0⟩
  | .encHalf4 => ⟨0x4, 0x13, 0⟩
  | .encsUByte2 len => ⟨0x5, 0x00, len⟩
  | .encsUByte4 len => ⟨0x5, 0x01, len⟩
  | .encsUShort2 len => ⟨0x5, 0x02, len⟩
  | .encsUShort4 len => ⟨0x5, 0x03, len⟩
  | .encsByte2 len => ⟨0x5, 0x04, len⟩
  | .encsByte4 len => ⟨0x5, 0x05, len⟩
  | .encsShort2 len => ⟨0x5, 0x06, len⟩
  | .encsShort4 len => ⟨0x5, 0x07, len⟩
  | .encsUByte2N len => ⟨0x5, 0x08, len⟩
  | .encsUByte4N len => ⟨0x5, 0x09, len⟩
  | .encsUShort2N len => ⟨0x5, 0x0A, len⟩
  | .encsUShort4N len => ⟨0x5, 0x0B, len⟩
  | .encsByte2N len => ⟨0x5, 0x0C, len⟩
  | .encsByte4N len => ⟨0x5, 0x0D, len⟩
  | .encsShort2N len => ⟨0x5, 0x0E, len⟩
  | .encsShort4N len => ⟨0x5, 0x0F, len⟩
  | .encsHalf2 len => ⟨0x5, 0x12, len⟩
  | .encsHalf4 len => ⟨0x5, 0x13, len⟩
  | .decUByte2 => ⟨0x6, 0x00, 0⟩
  | .decUByte4 => ⟨0x6, 0x01, 0⟩
  | .decUShort2 => ⟨0x6, 0x02, 0⟩
  | .decUShort4 => ⟨0x6, 0x03, 0⟩
  | .decByte2 => ⟨0x6, 0x04, 0⟩
  | .decByte4 => ⟨0x6, 0x05, 0⟩
  | .decShort2 => ⟨0x6, 0x06, 0⟩
  | .decShort4 => ⟨0x6, 0x07, 0⟩
  | .decUByte2N => ⟨0x6, 0x08, 0⟩
  | .decUByte4N => ⟨0x6, 0x09, 0⟩
  | .decUShort2N => ⟨0x6, 0x0A, 0⟩
  | .decUShort4N => ⟨0x6, 0x0B, 0⟩
  | .decByte2N => ⟨0x6, 0x0C, 0⟩
  | .decByte4N => ⟨0x6, 0x0D, 0⟩
  | .decShort2N => ⟨0x6, 0x0E, 0⟩
  | .decShort4N => ⟨0x6, 0x0F, 0⟩
  | .decHalf2 => ⟨0x6, 0x12, 0⟩
  | .decHalf4 => ⟨0x6, 0x13, 0⟩
  | .cmpeqUByte2 => ⟨0x7, 0x00, 0⟩
  | .cmpeqUByte4 => ⟨0x7, 0x01, 0⟩
  | .cmpeqUShort2 => ⟨0x7, 0x02, 0⟩
  | .cmpeqUShort4 => ⟨0x7, 0x03, 0⟩
  | .cmpeqByte2 => ⟨0x7, 0x04, 0⟩
  | .cmpeqByte4 => ⟨0x7, 0x05, 0⟩
  | .cmpeqShort2 => ⟨0x7, 0x06, 0⟩
  | .cmpeqShort4 => ⟨0x7, 0x07, 0⟩
  | .cmpeqUByte2N => ⟨0x7, 0x08, 0⟩
  | .cmpeqUByte4N => ⟨0x7, 0x09, 0⟩
  | .cmpeqUShort2N => ⟨0x7, 0x0A, 0⟩
  | .cmpeqUShort4N => ⟨0x7, 0x0B, 0⟩
  | .cmpeqByte2N => ⟨0x7, 0x0C, 0⟩
  | .cmpeqByte4N => ⟨0x7, 0x0D, 0⟩
  | .cmpeqShort2N => ⟨0x7, 0x0E, 0⟩
  | .cmpeqShort4N => ⟨0x7, 0x0F, 0⟩
  | .cmpeqHalf2 => ⟨0x7, 0x12, 0⟩
  | .cmpeqHalf4 => ⟨0x7, 0x13, 0⟩
  | .vclamp2 => ⟨0x8, 0x00, 0⟩
  | .vclamp4 => ⟨0x8, 0x01, 0⟩
  | .vround2 => ⟨0x9, 0x00, 0⟩
  | .vround4 => ⟨0x9, 0x01, 0⟩
  | .vtrunc2 => ⟨0xA, 0x00, 0⟩
  | .vtrunc4 => ⟨0xA, 0x01, 0⟩
  | .vsat2 => ⟨0xB, 0x00, 0⟩
  | .vsat4 => ⟨0xB, 0x01, 0⟩
  | .vmadd2 => ⟨0xC, 0x00, 0⟩
  | .vmadd4 => ⟨0xC, 0x01, 0⟩

/-- `cmd = {RSV, LEN, FMT, OP}` with `RSV = 0000` (30_encoding R60). -/
def encode (i : Instr) : Cmd :=
  0#4 ++ BitVec.ofNat 3 i.fields.len ++ BitVec.ofNat 5 i.fields.fmt ++ BitVec.ofNat 4 i.fields.op

end Sys2Proof
end

