-- ==== Sys2Proof/Config.lean ====
section
/-!
DEFINITION. The free values of the block: what the data ports and the request
latch hold while the spec calls them unspecified (10_state R33; 93_implementation_defined S5, S6). A free value has no
body: no proof can see what it is, so a claim about it holds whatever it is (assumption log 5).
The fixed widths of 00_scope R7 are the types of Word.lean; the open parameter `LATENCY` is data of State (assumption log 2).
-/

namespace Sys2Proof.Config

/-- What `rsp_status` holds at the n-th edge that leaves `rsp_valid = 0` (10_state R33). -/
opaque freeStatus : Nat → StatusCode

/-- What `rsp_data` holds at the n-th edge that leaves `rsp_valid = 0` (10_state R33). -/
opaque freeData : Nat → Bus

/-- What the command part of the request latch holds at the n-th edge that leaves `busy = 0` (10_state R33). -/
opaque freeCmd : Nat → Cmd

/-- What the operand part `A` of the latch holds at the n-th edge that leaves `busy = 0` (10_state R33). -/
opaque freeOperandA : Nat → Bus

/-- What the operand part `B_op` of the latch holds at the n-th edge that leaves `busy = 0` (10_state R33). -/
opaque freeOperandB : Nat → Bus

/-- What the operand part `C` of the latch holds at the n-th edge that leaves `busy = 0` (10_state R33). -/
opaque freeOperandC : Nat → Bus

end Sys2Proof.Config
end

