-- ==== Sys2Proof/Machine/State.lean ====
section
/-!
DEFINITION. The state of the block and its host (10_state R20 to R33), the reasons a step can stop, and the state after
reset. The spec gives the block no register file, no program counter, no flag, no control register and no memory (10_state
R25 to R31); its state is the transaction in flight and its ports.
-/

namespace Sys2Proof.Machine

/-- A request `(cmd, A, B_op, C)`, 16 + 3 x 128 = 400 bits (10_state R22). -/
structure Request where
  /-- The command word. -/
  cmd : Cmd
  /-- Operand bus `A`. -/
  a : Bus
  /-- Operand bus `B_op`. -/
  b : Bus
  /-- Operand bus `C`. -/
  c : Bus
  deriving DecidableEq, Repr

/-- A response `(status, R)`, 2 + 128 bits (10_state R22). -/
structure Response where
  /-- The status code. -/
  status : StatusCode
  /-- The result bus `R`. -/
  data : Bus
  deriving DecidableEq, Repr

/-- The levels of the input ports, as sampled on a rising edge of `clk` (10_state R23). They are the host's (60_exceptions
R257). -/
structure Pins where
  /-- `rst`, synchronous, active high. -/
  rst : Bool
  /-- `req_valid`. -/
  reqValid : Bool
  /-- `req_cmd`, `req_a`, `req_b`, `req_c`. -/
  req : Request
  /-- `rsp_ready`. -/
  rspReady : Bool
  deriving DecidableEq, Repr

/-- The status of a response; the code `11` is never produced (30_encoding R70; 93_implementation_defined S2). -/
inductive Status where
  /-- The operation completed. -/
  | ok
  /-- ENCS was given fewer elements than the format's arity. -/
  | invalidArgument
  /-- The command word is reserved or illegal. -/
  | illegalCommand
  deriving DecidableEq, Repr

/-- The two error conditions of the block, complete (60_exceptions R242). -/
inductive Cause where
  /-- Raised by ENCS only, when `LEN < A`. -/
  | invalidArgument
  /-- Raised by any request whose command word is illegal. -/
  | illegalCommand
  deriving DecidableEq, Repr

/-- The state of the block, the levels its host drives, and the run's outcome so far. -/
structure State where
  /-- The input levels the coming edge samples (10_state R23). -/
  pins : Pins
  /-- The host's later moves: the input levels of the edges after the coming one, first edge first (60_exceptions R257;
  assumption log 1). -/
  moves : List Pins
  /-- A request is accepted and its response not yet taken (10_state R22). -/
  busy : Bool
  /-- The request latch, 400 bits (10_state R22). -/
  latch : Request
  /-- Port `rsp_valid` (10_state R23). -/
  rspValid : Bool
  /-- Port `rsp_status` (10_state R23). -/
  rspStatus : StatusCode
  /-- Port `rsp_data` (10_state R23). -/
  rspData : Bus
  /-- The model's own: edges since the accepting edge, while the response is not yet presented (70_reset_and_hazards R277;
  assumption log 7). -/
  elapsed : Nat
  /-- The open parameter `LATENCY`, which no step changes (00_scope R8, 70_reset_and_hazards R277; assumption log 2). -/
  latency : Nat
  /-- The model's own: the index of the next free value (assumption log 5). -/
  freeIndex : Nat
  /-- The responses taken so far, in order: the observable outcome of a run (70_reset_and_hazards R279; assumption log 8). -/
  taken : List Response
  deriving DecidableEq, Repr

/-- The reasons the machine stops with a fault: none. Every error of the block is in band, in the response of the failing
transaction (60_exceptions R241), and the block never stops accepting requests of its own accord (70_reset_and_hazards
R279), so this closed inductive has no constructor. -/
inductive Fault where
  deriving DecidableEq, Repr

/-- The reasons the machine refuses an instruction. -/
inductive Refusal where
  /-- Raised by an arm of `exec` whose instruction has no meaning yet; no arm does, so no step refuses. Safe: a model that
  stops proves nothing false. -/
  | notModelled (mnemonic : String)
  deriving DecidableEq, Repr

/-- The request with every bit zero. -/
def Request.zero : Request := { cmd := 0, a := 0, b := 0, c := 0 }

/-- The host's levels with nothing asserted. -/
def Pins.quiet : Pins := { rst := false, reqValid := false, req := Request.zero, rspReady := false }

/-- The block right after reset (10_state R33, 70_reset_and_hazards R270): `busy = 0`, `rsp_valid = 0`. The spec leaves the
latch and the data ports unspecified and the host's levels to the host: zero here (DESIGN CHOICE, unsafe; assumption log 3,
4, 6); `LATENCY` is 1, which 70_reset_and_hazards R277 allows (DESIGN CHOICE; assumption log 2). -/
def State.reset : State where
  pins := Pins.quiet
  moves := []
  busy := false
  latch := Request.zero
  rspValid := false
  rspStatus := 0
  rspData := 0
  elapsed := 0
  latency := 1
  freeIndex := 0
  taken := []

end Sys2Proof.Machine
end

