-- ==== Sys2Proof/Machine/Flags.lean ====
section
/-!
DEFINITION. The block has no flags (10_state R27). The two indications a transaction has are computed here: the status
code of the response (30_encoding R70) and the verdict of CMPEQ (41_construct_pack R140).
-/

namespace Sys2Proof.Machine

/-- The 2-bit code of a status (30_encoding R70). -/
def Status.code : Status → StatusCode
  | .ok => 0b00#2
  | .invalidArgument => 0b01#2
  | .illegalCommand => 0b10#2

/-- The status an error condition reports (60_exceptions R242). -/
def Cause.status : Cause → Status
  | .invalidArgument => .invalidArgument
  | .illegalCommand => .illegalCommand

/-- The verdict of CMPEQ: `R[0]` is 1 for equal and 0 for not equal, every other bit zero (41_construct_pack R140). -/
def verdict (equal : Bool) : Bus := if equal then 1 else 0

end Sys2Proof.Machine
end

