-- ==== Sys2Proof/Machine/Operands.lean ====
section
/-!
DEFINITION. Operand and result forms: lanes, fields of a packed integer, the packed integer on a bus, and the integer laws
of storing and reading a component (10_state R24; 20_memory R41, R44; 30_encoding R68, R73; 41_construct_pack R133, R136).
-/

namespace Sys2Proof.Machine

/-- `X.lane[i]`, bits `[32i+31 : 32i]` of a bus (00_scope R10, 10_state R24). -/
def lane (x : Bus) (i : Nat) : Lane := x.extractLsb' (32 * i) 32

/-- Component `i` of a packed integer with elements of `w` bits: `P[(i+1)w-1 : iw]` (30_encoding R68). -/
def field (w i : Nat) (p : Bus) : BitVec w := p.extractLsb' (w * i) w

/-- The packed integer `P(X) = X[w-1:0]`; bits at and above `w` are ignored (10_state R24, 30_encoding R64). -/
def packed (w : Nat) (x : Bus) : BitVec w := x.extractLsb' 0 w

/-- A packed integer of `w` bits as a result: bits `[w-1:0]`, every other bit zero (10_state R24). -/
def packedResult (w : Nat) (x : Bus) : Bus := (packed w x).setWidth 128

/-- The result made of `n` fields of `w` bits, field `i` at bits `[(i+1)w-1 : iw]`, every other bit zero (00_scope R10,
20_memory R41): `R <- 0` and then one field after the other. -/
def packFields (w : Nat) (f : Nat → BitVec w) : Nat → Bus
  | 0 => 0
  | n + 1 => packFields w f n ||| ((f n).setWidth 128 <<< (w * n))

/-- The integer law of storage: a component is stored as its low `w` bits, `n mod 2^w` (41_construct_pack R133). -/
def storeInt (w : Nat) (x : Lane) : BitVec w := x.setWidth w

/-- The integer law of reading, signed families: `sext_32` (41_construct_pack R136). -/
def readSigned (w : Nat) (c : BitVec w) : Lane := c.signExtend 32

/-- The integer law of reading, unsigned families and half: `zext_32` (41_construct_pack R136). -/
def readUnsigned (w : Nat) (c : BitVec w) : Lane := c.setWidth 32

end Sys2Proof.Machine
end

