-- ==== Sys2Proof/Machine/Ops.lean ====
section
/-!
DEFINITION. The shared operations on State: responding, raising an error, and what one rising edge of `clk` does to the
block in each of its conditions (10_state R22, R23; 60_exceptions R241; 70_reset_and_hazards R270 to R277).
-/

namespace Sys2Proof.Machine

open Host (Outcome)

/-- `respond(status, R)`, the only way an operation ends (00_scope R10): the response is presented on the response ports
(10_state R23). -/
def respond (st : Status) (r : Bus) (s : State) : State :=
  { s with rspValid := true, rspStatus := st.code, rspData := r }

/-- `raise <Exception>`, taking an error: `respond(code, 0)` and nothing more (60_exceptions R241). Nothing is saved, no
control is transferred (R246), and there is no return operation to write beside it (R247). -/
def raise (e : Cause) (s : State) : State := respond e.status 0 s

/-- `respond(OK, R)` with `R` made of `n` fields (or lanes, with `w = 32`) of `w` bits, every other bit zero (30_encoding
R64). -/
def respondFields (w n : Nat) (f : Nat → BitVec w) (s : State) : State := respond .ok (packFields w f n) s

/-- The length check of ENCS: `INVALID_ARGUMENT` when `LEN < A`, before any lane is read; else the encoding `enc`
(42_encode R190). -/
def lengthChecked (arity len : Nat) (enc : Outcome State Fault Refusal) (s : State) : Outcome State Fault Refusal :=
  if len < arity then .next (raise .invalidArgument s) else enc

/-- Output port `req_ready`: equals `not busy` (10_state R23). -/
def State.reqReady (s : State) : Bool := !s.busy

/-- The response ports at an edge that leaves `rsp_valid = 0`: unspecified, so free values (10_state R33;
93_implementation_defined S5; assumption log 5). -/
def floatResponse (s : State) : State :=
  { s with
    rspValid := false
    rspStatus := Config.freeStatus s.freeIndex
    rspData := Config.freeData s.freeIndex
    freeIndex := s.freeIndex + 1 }

/-- The latch at an edge that leaves `busy = 0`: unspecified, so free values (10_state R33; 93_implementation_defined S6;
assumption log 5). -/
def floatLatch (s : State) : State :=
  { s with
    busy := false
    latch := { cmd := Config.freeCmd s.freeIndex, a := Config.freeOperandA s.freeIndex,
               b := Config.freeOperandB s.freeIndex, c := Config.freeOperandC s.freeIndex } }

/-- An edge that leaves the block idle: `busy = 0`, `rsp_valid = 0`, everything else of the block unspecified
(70_reset_and_hazards R270). -/
def goIdle (s : State) : State := floatResponse (floatLatch { s with elapsed := 0 })

/-- An edge with `rst = 1`: the block goes idle; a transaction in flight is dropped without a response
(70_reset_and_hazards R270, R271). -/
def resetEdge (s : State) : State := goIdle s

/-- An idle edge with no request presented: nothing is accepted, the block stays idle (10_state R23). -/
def idleEdge (s : State) : State := goIdle s

/-- The accepting edge: the latch is loaded from the request ports, all 400 bits together, and `busy` becomes 1 (10_state
R23, 20_memory R46). -/
def acceptEdge (s : State) : State :=
  floatResponse { s with busy := true, latch := s.pins.req, elapsed := 0 }

/-- An edge between acceptance and presentation: the block works from its latch (70_reset_and_hazards R273, R277). -/
def waitEdge (s : State) : State := floatResponse { s with elapsed := s.elapsed + 1 }

/-- The edge on which the response is taken: the host has it, `busy` and `rsp_valid` become 0 (10_state R23). -/
def takeEdge (s : State) : State :=
  goIdle { s with taken := s.taken ++ [{ status := s.rspStatus, data := s.rspData }] }

/-- After an edge the host drives its next levels; with no further move it leaves them as they are (60_exceptions R257;
assumption log 1). -/
def hostDrives (s : State) : State := { s with pins := s.moves.headD s.pins, moves := s.moves.tail }

/-- The end of an edge on which an instruction ran: the host drives its next levels. -/
def afterEdge : Outcome State Fault Refusal → Outcome State Fault Refusal
  | .next s => .next (hostDrives s)
  | .fault r => .fault r
  | .refused r => .refused r

/-- The response is due at this edge: `LATENCY` edges after the accepting one (70_reset_and_hazards R277). -/
def State.due (s : State) : Bool := decide (s.latency ≤ s.elapsed + 1)

/-- `s` with a request whose command word is the low `nbits` bits of `w` accepted and its response due at the next edge. -/
def placeCommand (s : State) (nbits w : Nat) : State :=
  { s with
    pins := { s.pins with rst := false }
    busy := true
    rspValid := false
    latch := { s.latch with cmd := BitVec.ofNat 16 (w % 2 ^ nbits) }
    elapsed := s.latency - 1 }

end Sys2Proof.Machine
end

