-- ==== Sys2Proof/Machine/Construct.lean ====
section
/-!
DEFINITION. FROMP, PACK, UNPACK, CMPEQ: construction from bits and integers, component access, equality
(41_construct_pack R130 to R140). None of them can fail (R130); each reads the request latch and answers through `respond`.
-/

namespace Sys2Proof.Machine

open Host (Outcome)

/-- `FROMP.UByte2`, 41_construct_pack R131: the low 16 bits of `A`, verbatim. -/
def execFrompUByte2 (s : State) : Outcome State Fault Refusal :=
  .next (respond .ok (packedResult 16 s.latch.a) s)

/-- `FROMP.UByte4`, 41_construct_pack R131: the low 32 bits of `A`, verbatim. -/
def execFrompUByte4 (s : State) : Outcome State Fault Refusal :=
  .next (respond .ok (packedResult 32 s.latch.a) s)

/-- `FROMP.UShort2`, 41_construct_pack R131: the low 32 bits of `A`, verbatim. -/
def execFrompUShort2 (s : State) : Outcome State Fault Refusal :=
  .next (respond .ok (packedResult 32 s.latch.a) s)

/-- `FROMP.UShort4`, 41_construct_pack R131: the low 64 bits of `A`, verbatim. -/
def execFrompUShort4 (s : State) : Outcome State Fault Refusal :=
  .next (respond .ok (packedResult 64 s.latch.a) s)

/-- `FROMP.Byte2`, 41_construct_pack R131: the low 16 bits of `A`, verbatim. -/
def execFrompByte2 (s : State) : Outcome State Fault Refusal :=
  .next (respond .ok (packedResult 16 s.latch.a) s)

/-- `FROMP.Byte4`, 41_construct_pack R131: the low 32 bits of `A`, verbatim. -/
def execFrompByte4 (s : State) : Outcome State Fault Refusal :=
  .next (respond .ok (packedResult 32 s.latch.a) s)

/-- `FROMP.Short2`, 41_construct_pack R131: the low 32 bits of `A`, verbatim. -/
def execFrompShort2 (s : State) : Outcome State Fault Refusal :=
  .next (respond .ok (packedResult 32 s.latch.a) s)

/-- `FROMP.Short4`, 41_construct_pack R131: the low 64 bits of `A`, verbatim. -/
def execFrompShort4 (s : State) : Outcome State Fault Refusal :=
  .next (respond .ok (packedResult 64 s.latch.a) s)

/-- `FROMP.UByte2N`, 41_construct_pack R131: the low 16 bits of `A`, verbatim. -/
def execFrompUByte2N (s : State) : Outcome State Fault Refusal :=
  .next (respond .ok (packedResult 16 s.latch.a) s)

/-- `FROMP.UByte4N`, 41_construct_pack R131: the low 32 bits of `A`, verbatim. -/
def execFrompUByte4N (s : State) : Outcome State Fault Refusal :=
  .next (respond .ok (packedResult 32 s.latch.a) s)

/-- `FROMP.UShort2N`, 41_construct_pack R131: the low 32 bits of `A`, verbatim. -/
def execFrompUShort2N (s : State) : Outcome State Fault Refusal :=
  .next (respond .ok (packedResult 32 s.latch.a) s)

/-- `FROMP.UShort4N`, 41_construct_pack R131: the low 64 bits of `A`, verbatim. -/
def execFrompUShort4N (s : State) : Outcome State Fault Refusal :=
  .next (respond .ok (packedResult 64 s.latch.a) s)

/-- `FROMP.Byte2N`, 41_construct_pack R131: the low 16 bits of `A`, verbatim. -/
def execFrompByte2N (s : State) : Outcome State Fault Refusal :=
  .next (respond .ok (packedResult 16 s.latch.a) s)

/-- `FROMP.Byte4N`, 41_construct_pack R131: the low 32 bits of `A`, verbatim. -/
def execFrompByte4N (s : State) : Outcome State Fault Refusal :=
  .next (respond .ok (packedResult 32 s.latch.a) s)

/-- `FROMP.Short2N`, 41_construct_pack R131: the low 32 bits of `A`, verbatim. -/
def execFrompShort2N (s : State) : Outcome State Fault Refusal :=
  .next (respond .ok (packedResult 32 s.latch.a) s)

/-- `FROMP.Short4N`, 41_construct_pack R131: the low 64 bits of `A`, verbatim. -/
def execFrompShort4N (s : State) : Outcome State Fault Refusal :=
  .next (respond .ok (packedResult 64 s.latch.a) s)

/-- `FROMP.Half2`, 41_construct_pack R131: the low 32 bits of `A`, verbatim. -/
def execFrompHalf2 (s : State) : Outcome State Fault Refusal :=
  .next (respond .ok (packedResult 32 s.latch.a) s)

/-- `FROMP.Half4`, 41_construct_pack R131: the low 64 bits of `A`, verbatim. -/
def execFrompHalf4 (s : State) : Outcome State Fault Refusal :=
  .next (respond .ok (packedResult 64 s.latch.a) s)

/-- `PACK.UByte2`, 41_construct_pack R134: the low 8 bits of lanes 0..1. -/
def execPackUByte2 (s : State) : Outcome State Fault Refusal :=
  .next (respondFields 8 2 (fun i => storeInt 8 (lane s.latch.a i)) s)

/-- `PACK.UByte4`, 41_construct_pack R134: the low 8 bits of lanes 0..3. -/
def execPackUByte4 (s : State) : Outcome State Fault Refusal :=
  .next (respondFields 8 4 (fun i => storeInt 8 (lane s.latch.a i)) s)

/-- `PACK.UShort2`, 41_construct_pack R134: the low 16 bits of lanes 0..1. -/
def execPackUShort2 (s : State) : Outcome State Fault Refusal :=
  .next (respondFields 16 2 (fun i => storeInt 16 (lane s.latch.a i)) s)

/-- `PACK.UShort4`, 41_construct_pack R134: the low 16 bits of lanes 0..3. -/
def execPackUShort4 (s : State) : Outcome State Fault Refusal :=
  .next (respondFields 16 4 (fun i => storeInt 16 (lane s.latch.a i)) s)

/-- `PACK.Byte2`, 41_construct_pack R134: the low 8 bits of lanes 0..1. -/
def execPackByte2 (s : State) : Outcome State Fault Refusal :=
  .next (respondFields 8 2 (fun i => storeInt 8 (lane s.latch.a i)) s)

/-- `PACK.Byte4`, 41_construct_pack R134: the low 8 bits of lanes 0..3. -/
def execPackByte4 (s : State) : Outcome State Fault Refusal :=
  .next (respondFields 8 4 (fun i => storeInt 8 (lane s.latch.a i)) s)

/-- `PACK.Short2`, 41_construct_pack R134: the low 16 bits of lanes 0..1. -/
def execPackShort2 (s : State) : Outcome State Fault Refusal :=
  .next (respondFields 16 2 (fun i => storeInt 16 (lane s.latch.a i)) s)

/-- `PACK.Short4`, 41_construct_pack R134: the low 16 bits of lanes 0..3. -/
def execPackShort4 (s : State) : Outcome State Fault Refusal :=
  .next (respondFields 16 4 (fun i => storeInt 16 (lane s.latch.a i)) s)

/-- `PACK.UByte2N`, 41_construct_pack R134: the low 8 bits of lanes 0..1. -/
def execPackUByte2N (s : State) : Outcome State Fault Refusal :=
  .next (respondFields 8 2 (fun i => storeInt 8 (lane s.latch.a i)) s)

/-- `PACK.UByte4N`, 41_construct_pack R134: the low 8 bits of lanes 0..3. -/
def execPackUByte4N (s : State) : Outcome State Fault Refusal :=
  .next (respondFields 8 4 (fun i => storeInt 8 (lane s.latch.a i)) s)

/-- `PACK.UShort2N`, 41_construct_pack R134: the low 16 bits of lanes 0..1. -/
def execPackUShort2N (s : State) : Outcome State Fault Refusal :=
  .next (respondFields 16 2 (fun i => storeInt 16 (lane s.latch.a i)) s)

/-- `PACK.UShort4N`, 41_construct_pack R134: the low 16 bits of lanes 0..3. -/
def execPackUShort4N (s : State) : Outcome State Fault Refusal :=
  .next (respondFields 16 4 (fun i => storeInt 16 (lane s.latch.a i)) s)

/-- `PACK.Byte2N`, 41_construct_pack R134: the low 8 bits of lanes 0..1. -/
def execPackByte2N (s : State) : Outcome State Fault Refusal :=
  .next (respondFields 8 2 (fun i => storeInt 8 (lane s.latch.a i)) s)

/-- `PACK.Byte4N`, 41_construct_pack R134: the low 8 bits of lanes 0..3. -/
def execPackByte4N (s : State) : Outcome State Fault Refusal :=
  .next (respondFields 8 4 (fun i => storeInt 8 (lane s.latch.a i)) s)

/-- `PACK.Short2N`, 41_construct_pack R134: the low 16 bits of lanes 0..1. -/
def execPackShort2N (s : State) : Outcome State Fault Refusal :=
  .next (respondFields 16 2 (fun i => storeInt 16 (lane s.latch.a i)) s)

/-- `PACK.Short4N`, 41_construct_pack R134: the low 16 bits of lanes 0..3. -/
def execPackShort4N (s : State) : Outcome State Fault Refusal :=
  .next (respondFields 16 4 (fun i => storeInt 16 (lane s.latch.a i)) s)

/-- `PACK.Half2`, 41_construct_pack R134: the low 16 bits of lanes 0..1. -/
def execPackHalf2 (s : State) : Outcome State Fault Refusal :=
  .next (respondFields 16 2 (fun i => storeInt 16 (lane s.latch.a i)) s)

/-- `PACK.Half4`, 41_construct_pack R134: the low 16 bits of lanes 0..3. -/
def execPackHalf4 (s : State) : Outcome State Fault Refusal :=
  .next (respondFields 16 4 (fun i => storeInt 16 (lane s.latch.a i)) s)

/-- `UNPACK.UByte2`, 41_construct_pack R137: 2 fields of 8 bits, each zero extended to a lane. -/
def execUnpackUByte2 (s : State) : Outcome State Fault Refusal :=
  .next (respondFields 32 2 (fun i => readUnsigned 8 (field 8 i s.latch.a)) s)

/-- `UNPACK.UByte4`, 41_construct_pack R137: 4 fields of 8 bits, each zero extended to a lane. -/
def execUnpackUByte4 (s : State) : Outcome State Fault Refusal :=
  .next (respondFields 32 4 (fun i => readUnsigned 8 (field 8 i s.latch.a)) s)

/-- `UNPACK.UShort2`, 41_construct_pack R137: 2 fields of 16 bits, each zero extended to a lane. -/
def execUnpackUShort2 (s : State) : Outcome State Fault Refusal :=
  .next (respondFields 32 2 (fun i => readUnsigned 16 (field 16 i s.latch.a)) s)

/-- `UNPACK.UShort4`, 41_construct_pack R137: 4 fields of 16 bits, each zero extended to a lane. -/
def execUnpackUShort4 (s : State) : Outcome State Fault Refusal :=
  .next (respondFields 32 4 (fun i => readUnsigned 16 (field 16 i s.latch.a)) s)

/-- `UNPACK.Byte2`, 41_construct_pack R137: 2 fields of 8 bits, each sign extended to a lane. -/
def execUnpackByte2 (s : State) : Outcome State Fault Refusal :=
  .next (respondFields 32 2 (fun i => readSigned 8 (field 8 i s.latch.a)) s)

/-- `UNPACK.Byte4`, 41_construct_pack R137: 4 fields of 8 bits, each sign extended to a lane. -/
def execUnpackByte4 (s : State) : Outcome State Fault Refusal :=
  .next (respondFields 32 4 (fun i => readSigned 8 (field 8 i s.latch.a)) s)

/-- `UNPACK.Short2`, 41_construct_pack R137: 2 fields of 16 bits, each sign extended to a lane. -/
def execUnpackShort2 (s : State) : Outcome State Fault Refusal :=
  .next (respondFields 32 2 (fun i => readSigned 16 (field 16 i s.latch.a)) s)

/-- `UNPACK.Short4`, 41_construct_pack R137: 4 fields of 16 bits, each sign extended to a lane. -/
def execUnpackShort4 (s : State) : Outcome State Fault Refusal :=
  .next (respondFields 32 4 (fun i => readSigned 16 (field 16 i s.latch.a)) s)

/-- `UNPACK.UByte2N`, 41_construct_pack R137: 2 fields of 8 bits, each zero extended to a lane. -/
def execUnpackUByte2N (s : State) : Outcome State Fault Refusal :=
  .next (respondFields 32 2 (fun i => readUnsigned 8 (field 8 i s.latch.a)) s)

/-- `UNPACK.UByte4N`, 41_construct_pack R137: 4 fields of 8 bits, each zero extended to a lane. -/
def execUnpackUByte4N (s : State) : Outcome State Fault Refusal :=
  .next (respondFields 32 4 (fun i => readUnsigned 8 (field 8 i s.latch.a)) s)

/-- `UNPACK.UShort2N`, 41_construct_pack R137: 2 fields of 16 bits, each zero extended to a lane. -/
def execUnpackUShort2N (s : State) : Outcome State Fault Refusal :=
  .next (respondFields 32 2 (fun i => readUnsigned 16 (field 16 i s.latch.a)) s)

/-- `UNPACK.UShort4N`, 41_construct_pack R137: 4 fields of 16 bits, each zero extended to a lane. -/
def execUnpackUShort4N (s : State) : Outcome State Fault Refusal :=
  .next (respondFields 32 4 (fun i => readUnsigned 16 (field 16 i s.latch.a)) s)

/-- `UNPACK.Byte2N`, 41_construct_pack R137: 2 fields of 8 bits, each sign extended to a lane. -/
def execUnpackByte2N (s : State) : Outcome State Fault Refusal :=
  .next (respondFields 32 2 (fun i => readSigned 8 (field 8 i s.latch.a)) s)

/-- `UNPACK.Byte4N`, 41_construct_pack R137: 4 fields of 8 bits, each sign extended to a lane. -/
def execUnpackByte4N (s : State) : Outcome State Fault Refusal :=
  .next (respondFields 32 4 (fun i => readSigned 8 (field 8 i s.latch.a)) s)

/-- `UNPACK.Short2N`, 41_construct_pack R137: 2 fields of 16 bits, each sign extended to a lane. -/
def execUnpackShort2N (s : State) : Outcome State Fault Refusal :=
  .next (respondFields 32 2 (fun i => readSigned 16 (field 16 i s.latch.a)) s)

/-- `UNPACK.Short4N`, 41_construct_pack R137: 4 fields of 16 bits, each sign extended to a lane. -/
def execUnpackShort4N (s : State) : Outcome State Fault Refusal :=
  .next (respondFields 32 4 (fun i => readSigned 16 (field 16 i s.latch.a)) s)

/-- `UNPACK.Half2`, 41_construct_pack R137: 2 fields of 16 bits, each zero extended to a lane. -/
def execUnpackHalf2 (s : State) : Outcome State Fault Refusal :=
  .next (respondFields 32 2 (fun i => readUnsigned 16 (field 16 i s.latch.a)) s)

/-- `UNPACK.Half4`, 41_construct_pack R137: 4 fields of 16 bits, each zero extended to a lane. -/
def execUnpackHalf4 (s : State) : Outcome State Fault Refusal :=
  .next (respondFields 32 4 (fun i => readUnsigned 16 (field 16 i s.latch.a)) s)

/-- `CMPEQ.UByte2`, 41_construct_pack R140: bitwise equality of the low 16 bits of `A` and `B_op`. -/
def execCmpeqUByte2 (s : State) : Outcome State Fault Refusal :=
  .next (respond .ok (verdict (packed 16 s.latch.a == packed 16 s.latch.b)) s)

/-- `CMPEQ.UByte4`, 41_construct_pack R140: bitwise equality of the low 32 bits of `A` and `B_op`. -/
def execCmpeqUByte4 (s : State) : Outcome State Fault Refusal :=
  .next (respond .ok (verdict (packed 32 s.latch.a == packed 32 s.latch.b)) s)

/-- `CMPEQ.UShort2`, 41_construct_pack R140: bitwise equality of the low 32 bits of `A` and `B_op`. -/
def execCmpeqUShort2 (s : State) : Outcome State Fault Refusal :=
  .next (respond .ok (verdict (packed 32 s.latch.a == packed 32 s.latch.b)) s)

/-- `CMPEQ.UShort4`, 41_construct_pack R140: bitwise equality of the low 64 bits of `A` and `B_op`. -/
def execCmpeqUShort4 (s : State) : Outcome State Fault Refusal :=
  .next (respond .ok (verdict (packed 64 s.latch.a == packed 64 s.latch.b)) s)

/-- `CMPEQ.Byte2`, 41_construct_pack R140: bitwise equality of the low 16 bits of `A` and `B_op`. -/
def execCmpeqByte2 (s : State) : Outcome State Fault Refusal :=
  .next (respond .ok (verdict (packed 16 s.latch.a == packed 16 s.latch.b)) s)

/-- `CMPEQ.Byte4`, 41_construct_pack R140: bitwise equality of the low 32 bits of `A` and `B_op`. -/
def execCmpeqByte4 (s : State) : Outcome State Fault Refusal :=
  .next (respond .ok (verdict (packed 32 s.latch.a == packed 32 s.latch.b)) s)

/-- `CMPEQ.Short2`, 41_construct_pack R140: bitwise equality of the low 32 bits of `A` and `B_op`. -/
def execCmpeqShort2 (s : State) : Outcome State Fault Refusal :=
  .next (respond .ok (verdict (packed 32 s.latch.a == packed 32 s.latch.b)) s)

/-- `CMPEQ.Short4`, 41_construct_pack R140: bitwise equality of the low 64 bits of `A` and `B_op`. -/
def execCmpeqShort4 (s : State) : Outcome State Fault Refusal :=
  .next (respond .ok (verdict (packed 64 s.latch.a == packed 64 s.latch.b)) s)

/-- `CMPEQ.UByte2N`, 41_construct_pack R140: bitwise equality of the low 16 bits of `A` and `B_op`. -/
def execCmpeqUByte2N (s : State) : Outcome State Fault Refusal :=
  .next (respond .ok (verdict (packed 16 s.latch.a == packed 16 s.latch.b)) s)

/-- `CMPEQ.UByte4N`, 41_construct_pack R140: bitwise equality of the low 32 bits of `A` and `B_op`. -/
def execCmpeqUByte4N (s : State) : Outcome State Fault Refusal :=
  .next (respond .ok (verdict (packed 32 s.latch.a == packed 32 s.latch.b)) s)

/-- `CMPEQ.UShort2N`, 41_construct_pack R140: bitwise equality of the low 32 bits of `A` and `B_op`. -/
def execCmpeqUShort2N (s : State) : Outcome State Fault Refusal :=
  .next (respond .ok (verdict (packed 32 s.latch.a == packed 32 s.latch.b)) s)

/-- `CMPEQ.UShort4N`, 41_construct_pack R140: bitwise equality of the low 64 bits of `A` and `B_op`. -/
def execCmpeqUShort4N (s : State) : Outcome State Fault Refusal :=
  .next (respond .ok (verdict (packed 64 s.latch.a == packed 64 s.latch.b)) s)

/-- `CMPEQ.Byte2N`, 41_construct_pack R140: bitwise equality of the low 16 bits of `A` and `B_op`. -/
def execCmpeqByte2N (s : State) : Outcome State Fault Refusal :=
  .next (respond .ok (verdict (packed 16 s.latch.a == packed 16 s.latch.b)) s)

/-- `CMPEQ.Byte4N`, 41_construct_pack R140: bitwise equality of the low 32 bits of `A` and `B_op`. -/
def execCmpeqByte4N (s : State) : Outcome State Fault Refusal :=
  .next (respond .ok (verdict (packed 32 s.latch.a == packed 32 s.latch.b)) s)

/-- `CMPEQ.Short2N`, 41_construct_pack R140: bitwise equality of the low 32 bits of `A` and `B_op`. -/
def execCmpeqShort2N (s : State) : Outcome State Fault Refusal :=
  .next (respond .ok (verdict (packed 32 s.latch.a == packed 32 s.latch.b)) s)

/-- `CMPEQ.Short4N`, 41_construct_pack R140: bitwise equality of the low 64 bits of `A` and `B_op`. -/
def execCmpeqShort4N (s : State) : Outcome State Fault Refusal :=
  .next (respond .ok (verdict (packed 64 s.latch.a == packed 64 s.latch.b)) s)

/-- `CMPEQ.Half2`, 41_construct_pack R140: bitwise equality of the low 32 bits of `A` and `B_op`. -/
def execCmpeqHalf2 (s : State) : Outcome State Fault Refusal :=
  .next (respond .ok (verdict (packed 32 s.latch.a == packed 32 s.latch.b)) s)

/-- `CMPEQ.Half4`, 41_construct_pack R140: bitwise equality of the low 64 bits of `A` and `B_op`. -/
def execCmpeqHalf4 (s : State) : Outcome State Fault Refusal :=
  .next (respond .ok (verdict (packed 64 s.latch.a == packed 64 s.latch.b)) s)

end Sys2Proof.Machine
end

