-- ==== Sys2Proof/Machine/Float.lean ====
section
/-!
DEFINITION. Floating point (00_scope R11 to R14). Every finite binary32 value is a whole number of units of 2^-149, the
binary32 subnormal grid, so its exact value is a sign and a natural number; an exact rational is a sign and a quotient of
two naturals. Each arithmetic primitive computes exactly and rounds once (assumption log 11).
-/

namespace Sys2Proof.Machine

/-- The sign bit `s = v[31]` (00_scope R11). -/
def signBit (x : Lane) : Bool := x.getLsbD 31

/-- The biased exponent `e = v[30:23]` (00_scope R11). -/
def expField (x : Lane) : Nat := (x.extractLsb' 23 8).toNat

/-- The fraction `f = v[22:0]` (00_scope R11). -/
def fracField (x : Lane) : Nat := (x.extractLsb' 0 23).toNat

/-- NaN: `e = 255`, `f` not 0 (00_scope R11). -/
def isNaN (x : Lane) : Bool := expField x == 255 && fracField x != 0

/-- Infinity: `e = 255`, `f = 0` (00_scope R11). -/
def isInf (x : Lane) : Bool := expField x == 255 && fracField x == 0

/-- Zero of either sign: `e = 0`, `f = 0` (00_scope R11). -/
def isZero (x : Lane) : Bool := expField x == 0 && fracField x == 0

/-- Zero, subnormal or normal (00_scope R11). -/
def isFinite (x : Lane) : Bool := expField x != 255

/-- One unit is 2^-149; `2^149` units are the value 1. -/
def one : Nat := 2 ^ 149

/-- The magnitude of a finite value in units of 2^-149: `f` for `e = 0`, `(2^23 + f) x 2^(e-1)` for a normal (00_scope
R11: `f x 2^-149` and `(2^23 + f) x 2^(e-150)`). -/
def magnitude (x : Lane) : Nat :=
  if expField x = 0 then fracField x else (2 ^ 23 + fracField x) * 2 ^ (expField x - 1)

/-- `val(x)` of a finite `x`, in units of 2^-149 (00_scope R11, R14). -/
def value (x : Lane) : Int := if signBit x then -(magnitude x : Int) else (magnitude x : Int)

/-- The canonical quiet NaN (00_scope R14). -/
def qNaN : Lane := 0x7FC00000#32

/-- The infinity of a sign (00_scope R11). -/
def infinity (neg : Bool) : Lane := if neg then 0xFF800000#32 else 0x7F800000#32

/-- The zero of a sign (00_scope R11). -/
def zero (neg : Bool) : Lane := if neg then 0x80000000#32 else 0x00000000#32

/-- The natural number nearest to `num / den`; of two equally near, the even one. -/
def nearestEven (num den : Nat) : Nat :=
  let q := num / den
  let r := num % den
  if den < 2 * r then q + 1
  else if 2 * r = den then q + q % 2
  else q

/-- The rounding of 00_scope R13 on magnitudes, for a format with `p` fraction bits: the exponent and fraction fields, as
one number, of the value nearest to `num / den` units of the subnormal grid, ties to the even fraction; at most `top`,
the pattern of infinity. The grid spacing is `2^k` units with `k` the number of bits by which the whole part exceeds
`p + 1` bits, so results below the smallest normal stay on the subnormal grid. -/
def roundMagnitude (p top num den : Nat) : Nat :=
  let k := Nat.log2 (num / den) - p
  min top (k * 2 ^ p + nearestEven num (den * 2 ^ k))

/-- `rne32(q)` for the rational of sign `neg` and magnitude `num / den` units of 2^-149 (00_scope R13); a zero result has
the sign `neg`. -/
def rne32 (neg : Bool) (num den : Nat) : Lane :=
  BitVec.ofBool neg ++ BitVec.ofNat 31 (roundMagnitude 23 0x7F800000 num den)

/-- `rne16(q)` for the rational of sign `neg` and magnitude `num / den` units of 2^-24, the binary16 subnormal grid
(00_scope R12, R13); a zero result has the sign `neg`. -/
def rne16 (neg : Bool) (num den : Nat) : BitVec 16 :=
  BitVec.ofBool neg ++ BitVec.ofNat 15 (roundMagnitude 10 0x7C00 num den)

/-- `fmul32` (00_scope R14). -/
def fmul32 (x y : Lane) : Lane :=
  let neg := signBit x ^^ signBit y
  if isNaN x || isNaN y then qNaN
  else if (isInf x && isZero y) || (isZero x && isInf y) then qNaN
  else if isInf x || isInf y then infinity neg
  else rne32 neg (magnitude x * magnitude y) one

/-- `fadd32` (00_scope R14). -/
def fadd32 (x y : Lane) : Lane :=
  if isNaN x || isNaN y then qNaN
  else if isInf x && isInf y then (if x = y then x else qNaN)
  else if isInf x then x
  else if isInf y then y
  else
    let q := value x + value y
    if q = 0 then zero (isZero x && isZero y && signBit x && signBit y)
    else rne32 (decide (q < 0)) q.natAbs 1

/-- `fdiv32` (00_scope R14). -/
def fdiv32 (x y : Lane) : Lane :=
  let neg := signBit x ^^ signBit y
  if isNaN x || isNaN y then qNaN
  else if isInf x then (if isInf y then qNaN else infinity neg)
  else if isInf y then zero neg
  else if isZero y then (if isZero x then qNaN else infinity neg)
  else rne32 neg (magnitude x * one) (magnitude y)

/-- `i2f32`: the binary32 value of an integer, exact for `|n| <= 65535`, `+0` for 0 (00_scope R14). -/
def i2f32 (n : Int) : Lane := rne32 (decide (n < 0)) (n.natAbs * one) 1

/-- `f2i`: the integer that is the value of a finite `x`; both zeros give 0 (00_scope R14). -/
def f2i (x : Lane) : Int := value x / (one : Int)

/-- `fgt`: false with a NaN; zeros of either sign compare equal; `+infinity` above and `-infinity` below every finite
value (00_scope R14). -/
def fgt (x y : Lane) : Bool :=
  if isNaN x || isNaN y then false
  else if isInf x then !signBit x && x != y
  else if isInf y then signBit y
  else decide (value y < value x)

/-- `flt(x, y) = fgt(y, x)` (00_scope R14). -/
def flt (x y : Lane) : Bool := fgt y x

end Sys2Proof.Machine
end

