-- ==== Sys2Proof/Machine/Formats.lean ====
section
/-!
DEFINITION. The parameters of the formats and of the lane counts, from the roster of 30_encoding R66.
-/

namespace Sys2Proof

/-- Every format of the roster, in the order of 30_encoding R66. -/
def Format.all : List Format :=
  [.uByte2, .uByte4, .uShort2, .uShort4, .byte2, .byte4,
   .short2, .short4, .uByte2N, .uByte4N, .uShort2N, .uShort4N,
   .byte2N, .byte4N, .short2N, .short4N, .half2, .half4]

/-- The policy family (30_encoding R66, column `family`). -/
def Format.family : Format → Family
  | .uByte2 | .uByte4 | .uShort2 | .uShort4 => .rawUnsigned
  | .byte2 | .byte4 | .short2 | .short4 => .rawSigned
  | .uByte2N | .uByte4N | .uShort2N | .uShort4N => .unsignedNorm
  | .byte2N | .byte4N | .short2N | .short4N => .signedNorm
  | .half2 | .half4 => .half

/-- The arity `A`, components per tuple (30_encoding R66). -/
def Format.arity : Format → Nat
  | .uByte2 | .uShort2 | .byte2 | .short2 | .uByte2N
  | .uShort2N | .byte2N | .short2N | .half2 => 2
  | .uByte4 | .uShort4 | .byte4 | .short4 | .uByte4N
  | .uShort4N | .byte4N | .short4N | .half4 => 4

/-- The element width `B` in bits (30_encoding R66). -/
def Format.bits : Format → Nat
  | .uByte2 | .uByte4 | .byte2 | .byte4 | .uByte2N
  | .uByte4N | .byte2N | .byte4N => 8
  | .uShort2 | .uShort4 | .short2 | .short4 | .uShort2N
  | .uShort4N | .short2N | .short4N | .half2 | .half4 => 16

/-- The packed width `W = A x B` in bits (00_scope R7, 30_encoding R67). -/
def Format.width (f : Format) : Nat := f.arity * f.bits

/-- Whether a component reads as a two's complement integer: `FMT` in `0x04..0x07`, `0x0C..0x0F` (30_encoding R73,
41_construct_pack R137). The half family reads as unsigned. -/
def Format.signed (f : Format) : Bool :=
  match f.family with
  | .rawSigned | .signedNorm => true
  | .rawUnsigned | .unsignedNorm | .half => false

/-- The number of lanes `n` of a helper command (40_helper_kernel R101). -/
def Lanes.count : Lanes → Nat
  | .two => 2
  | .four => 4

end Sys2Proof
end

