-- ==== Sys2Proof/Machine/Kernel.lean ====
section
/-!
DEFINITION. The per-lane functions: the numeric helper kernel (40_helper_kernel R103 to R112), the encode lane functions
(42_encode R162 to R167) and the decode lane functions (43_decode R202 to R207). They are the scalar reference every
implementation must match bit for bit (40_helper_kernel R102).
-/

namespace Sys2Proof.Machine

/-- `fmax(a, b)`: `a` only when `a > b` is true (40_helper_kernel R103). -/
def fmax (a b : Lane) : Lane := if fgt a b then a else b

/-- `fmin(a, b)`: `a` only when `a < b` is true (40_helper_kernel R103). -/
def fmin (a b : Lane) : Lane := if flt a b then a else b

/-- `Clamp1` (40_helper_kernel R104). -/
def clamp1 (v lo hi : Lane) : Lane := fmin (fmax v lo) hi

/-- `Round1`: to the nearest integer, ties to even; the sign is kept (40_helper_kernel R106). -/
def round1 (x : Lane) : Lane :=
  if isNaN x then qNaN
  else if isInf x || isZero x then x
  else rne32 (signBit x) (nearestEven (magnitude x) one * one) 1

/-- `Trunc1`: toward zero; the sign is kept (40_helper_kernel R108). -/
def trunc1 (x : Lane) : Lane :=
  if isNaN x then qNaN
  else if isInf x || isZero x then x
  else rne32 (signBit x) (magnitude x / one * one) 1

/-- `Sat1`: clamp to [0, 1] (40_helper_kernel R110). -/
def sat1 (x : Lane) : Lane := clamp1 x 0x00000000#32 0x3F800000#32

/-- `Madd1`: an unfused multiply and add, two roundings (40_helper_kernel R112). -/
def madd1 (v scale bias : Lane) : Lane := fadd32 (fmul32 v scale) bias

/-- `Narrow(B, x)`: the integer value of `x` modulo `2^B` (42_encode R162). -/
def narrow (w : Nat) (x : Lane) : BitVec w := BitVec.ofInt w (f2i x)

/-- The scale `m` of the signed families: `2^(B-1) - 1` (00_scope R16). -/
def signedScale (w : Nat) : Int := 2 ^ (w - 1) - 1

/-- The scale `m` of the unsigned families: `2^B - 1` (00_scope R16). -/
def unsignedScale (w : Nat) : Int := 2 ^ w - 1

/-- `EncRawSigned(B, v)` (42_encode R163). -/
def encRawSigned (w : Nat) (v : Lane) : BitVec w :=
  narrow w (round1 (clamp1 v (i2f32 (-signedScale w)) (i2f32 (signedScale w))))

/-- `EncRawUnsigned(B, v)` (42_encode R164). -/
def encRawUnsigned (w : Nat) (v : Lane) : BitVec w :=
  narrow w (round1 (clamp1 v 0x00000000#32 (i2f32 (unsignedScale w))))

/-- `EncSNorm(B, v)` (42_encode R165). -/
def encSNorm (w : Nat) (v : Lane) : BitVec w :=
  narrow w (round1 (fmul32 (clamp1 v 0xBF800000#32 0x3F800000#32) (i2f32 (signedScale w))))

/-- `EncUNorm(B, v)`: truncate after adding one half, not round to even (42_encode R166). -/
def encUNorm (w : Nat) (v : Lane) : BitVec w :=
  narrow w (trunc1 (madd1 (sat1 v) (i2f32 (unsignedScale w)) 0x3F000000#32))

/-- `EncHalf(x)`: binary32 to binary16, no clamp (42_encode R167). One binary16 grid step 2^-24 is `2^125` units. -/
def encHalf (x : Lane) : BitVec 16 :=
  let s := BitVec.ofBool (signBit x)
  if isNaN x then s ++ 0b11111#5 ++ 1#1 ++ x.extractLsb' 13 9
  else if isInf x then s ++ 0b11111#5 ++ 0#10
  else if isZero x then s ++ 0#15
  else rne16 (signBit x) (magnitude x) (2 ^ 125)

/-- `WidenS(B, c)`: the field read as two's complement, as a float (43_decode R202). -/
def widenS (w : Nat) (c : BitVec w) : Lane :=
  if c.toNat < 2 ^ (w - 1) then i2f32 c.toNat else i2f32 ((c.toNat : Int) - 2 ^ w)

/-- `WidenU(B, c)`: the field read as unsigned, as a float (43_decode R202). -/
def widenU (w : Nat) (c : BitVec w) : Lane := i2f32 c.toNat

/-- `DecRawSigned(B, c)` (43_decode R203). -/
def decRawSigned (w : Nat) (c : BitVec w) : Lane := widenS w c

/-- `DecRawUnsigned(B, c)` (43_decode R204). -/
def decRawUnsigned (w : Nat) (c : BitVec w) : Lane := widenU w c

/-- `DecSNorm(B, c)`: the most negative field is exactly -1.0 (43_decode R205). -/
def decSNorm (w : Nat) (c : BitVec w) : Lane :=
  if c.toNat = 2 ^ (w - 1) then 0xBF800000#32 else fdiv32 (widenS w c) (i2f32 (signedScale w))

/-- `DecUNorm(B, c)` (43_decode R206). -/
def decUNorm (w : Nat) (c : BitVec w) : Lane := fdiv32 (widenU w c) (i2f32 (unsignedScale w))

/-- `DecHalf(h)`: binary16 to binary32, exact (43_decode R207). A binary16 subnormal `f x 2^-24` is `f x 2^125` units. -/
def decHalf (h : BitVec 16) : Lane :=
  let s := BitVec.ofBool (h.getLsbD 15)
  let e := (h.extractLsb' 10 5).toNat
  let f := h.extractLsb' 0 10
  if e = 31 then s ++ 0xFF#8 ++ f ++ 0#13
  else if e = 0 then
    if f = 0 then s ++ 0#31 else rne32 (h.getLsbD 15) (f.toNat * 2 ^ 125) 1
  else s ++ BitVec.ofNat 8 (e + 112) ++ f ++ 0#13

/-- The encode lane function of a format (42_encode R161). -/
def encLane (f : Format) (v : Lane) : BitVec f.bits :=
  match f.family with
  | .rawUnsigned => encRawUnsigned f.bits v
  | .rawSigned => encRawSigned f.bits v
  | .unsignedNorm => encUNorm f.bits v
  | .signedNorm => encSNorm f.bits v
  | .half => (encHalf v).setWidth f.bits

/-- The decode lane function of a format (43_decode R201). -/
def decLane (f : Format) (c : BitVec f.bits) : Lane :=
  match f.family with
  | .rawUnsigned => decRawUnsigned f.bits c
  | .rawSigned => decRawSigned f.bits c
  | .unsignedNorm => decUNorm f.bits c
  | .signedNorm => decSNorm f.bits c
  | .half => decHalf (c.setWidth 16)

end Sys2Proof.Machine
end

