-- ==== Sys2Proof/Machine/DecodeTuple.lean ====
section
/-!
DEFINITION. DEC, packed integer to float tuple, one meaning per format (43_decode R208 to R225): lane `i` of the
result is the family's lane function of field `i` of `A` (R200, R201). DEC never fails (R226).
-/

namespace Sys2Proof.Machine

open Host (Outcome)

/-- `DEC.UByte2`, 43_decode R208. -/
def execDecUByte2 (s : State) : Outcome State Fault Refusal :=
  .next (respondFields 32 2 (fun i => decRawUnsigned 8 (field 8 i s.latch.a)) s)

/-- `DEC.UByte4`, 43_decode R209. -/
def execDecUByte4 (s : State) : Outcome State Fault Refusal :=
  .next (respondFields 32 4 (fun i => decRawUnsigned 8 (field 8 i s.latch.a)) s)

/-- `DEC.UShort2`, 43_decode R210. -/
def execDecUShort2 (s : State) : Outcome State Fault Refusal :=
  .next (respondFields 32 2 (fun i => decRawUnsigned 16 (field 16 i s.latch.a)) s)

/-- `DEC.UShort4`, 43_decode R211. -/
def execDecUShort4 (s : State) : Outcome State Fault Refusal :=
  .next (respondFields 32 4 (fun i => decRawUnsigned 16 (field 16 i s.latch.a)) s)

/-- `DEC.Byte2`, 43_decode R212. -/
def execDecByte2 (s : State) : Outcome State Fault Refusal :=
  .next (respondFields 32 2 (fun i => decRawSigned 8 (field 8 i s.latch.a)) s)

/-- `DEC.Byte4`, 43_decode R213. -/
def execDecByte4 (s : State) : Outcome State Fault Refusal :=
  .next (respondFields 32 4 (fun i => decRawSigned 8 (field 8 i s.latch.a)) s)

/-- `DEC.Short2`, 43_decode R214. -/
def execDecShort2 (s : State) : Outcome State Fault Refusal :=
  .next (respondFields 32 2 (fun i => decRawSigned 16 (field 16 i s.latch.a)) s)

/-- `DEC.Short4`, 43_decode R215. -/
def execDecShort4 (s : State) : Outcome State Fault Refusal :=
  .next (respondFields 32 4 (fun i => decRawSigned 16 (field 16 i s.latch.a)) s)

/-- `DEC.UByte2N`, 43_decode R216. -/
def execDecUByte2N (s : State) : Outcome State Fault Refusal :=
  .next (respondFields 32 2 (fun i => decUNorm 8 (field 8 i s.latch.a)) s)

/-- `DEC.UByte4N`, 43_decode R217. -/
def execDecUByte4N (s : State) : Outcome State Fault Refusal :=
  .next (respondFields 32 4 (fun i => decUNorm 8 (field 8 i s.latch.a)) s)

/-- `DEC.UShort2N`, 43_decode R218. -/
def execDecUShort2N (s : State) : Outcome State Fault Refusal :=
  .next (respondFields 32 2 (fun i => decUNorm 16 (field 16 i s.latch.a)) s)

/-- `DEC.UShort4N`, 43_decode R219. -/
def execDecUShort4N (s : State) : Outcome State Fault Refusal :=
  .next (respondFields 32 4 (fun i => decUNorm 16 (field 16 i s.latch.a)) s)

/-- `DEC.Byte2N`, 43_decode R220. -/
def execDecByte2N (s : State) : Outcome State Fault Refusal :=
  .next (respondFields 32 2 (fun i => decSNorm 8 (field 8 i s.latch.a)) s)

/-- `DEC.Byte4N`, 43_decode R221. -/
def execDecByte4N (s : State) : Outcome State Fault Refusal :=
  .next (respondFields 32 4 (fun i => decSNorm 8 (field 8 i s.latch.a)) s)

/-- `DEC.Short2N`, 43_decode R222. -/
def execDecShort2N (s : State) : Outcome State Fault Refusal :=
  .next (respondFields 32 2 (fun i => decSNorm 16 (field 16 i s.latch.a)) s)

/-- `DEC.Short4N`, 43_decode R223. -/
def execDecShort4N (s : State) : Outcome State Fault Refusal :=
  .next (respondFields 32 4 (fun i => decSNorm 16 (field 16 i s.latch.a)) s)

/-- `DEC.Half2`, 43_decode R224. -/
def execDecHalf2 (s : State) : Outcome State Fault Refusal :=
  .next (respondFields 32 2 (fun i => decHalf (field 16 i s.latch.a)) s)

/-- `DEC.Half4`, 43_decode R225. -/
def execDecHalf4 (s : State) : Outcome State Fault Refusal :=
  .next (respondFields 32 4 (fun i => decHalf (field 16 i s.latch.a)) s)

end Sys2Proof.Machine
end

