-- ==== Sys2Proof/Machine/EncodeSequence.lean ====
section
/-!
DEFINITION. ENCS, the length-checked encode, one meaning per format (42_encode R190): INVALID_ARGUMENT when `LEN < A`,
else exactly ENC of the format.
-/

namespace Sys2Proof.Machine

open Host (Outcome)

/-- `ENCS.UByte2 len=n`, 42_encode R190 with `A = 2`. -/
def execEncsUByte2 (len : Nat) (s : State) : Outcome State Fault Refusal :=
  lengthChecked 2 len (.next (respondFields 8 2 (fun i => encRawUnsigned 8 (lane s.latch.a i)) s)) s

/-- `ENCS.UByte4 len=n`, 42_encode R190 with `A = 4`. -/
def execEncsUByte4 (len : Nat) (s : State) : Outcome State Fault Refusal :=
  lengthChecked 4 len (.next (respondFields 8 4 (fun i => encRawUnsigned 8 (lane s.latch.a i)) s)) s

/-- `ENCS.UShort2 len=n`, 42_encode R190 with `A = 2`. -/
def execEncsUShort2 (len : Nat) (s : State) : Outcome State Fault Refusal :=
  lengthChecked 2 len (.next (respondFields 16 2 (fun i => encRawUnsigned 16 (lane s.latch.a i)) s)) s

/-- `ENCS.UShort4 len=n`, 42_encode R190 with `A = 4`. -/
def execEncsUShort4 (len : Nat) (s : State) : Outcome State Fault Refusal :=
  lengthChecked 4 len (.next (respondFields 16 4 (fun i => encRawUnsigned 16 (lane s.latch.a i)) s)) s

/-- `ENCS.Byte2 len=n`, 42_encode R190 with `A = 2`. -/
def execEncsByte2 (len : Nat) (s : State) : Outcome State Fault Refusal :=
  lengthChecked 2 len (.next (respondFields 8 2 (fun i => encRawSigned 8 (lane s.latch.a i)) s)) s

/-- `ENCS.Byte4 len=n`, 42_encode R190 with `A = 4`. -/
def execEncsByte4 (len : Nat) (s : State) : Outcome State Fault Refusal :=
  lengthChecked 4 len (.next (respondFields 8 4 (fun i => encRawSigned 8 (lane s.latch.a i)) s)) s

/-- `ENCS.Short2 len=n`, 42_encode R190 with `A = 2`. -/
def execEncsShort2 (len : Nat) (s : State) : Outcome State Fault Refusal :=
  lengthChecked 2 len (.next (respondFields 16 2 (fun i => encRawSigned 16 (lane s.latch.a i)) s)) s

/-- `ENCS.Short4 len=n`, 42_encode R190 with `A = 4`. -/
def execEncsShort4 (len : Nat) (s : State) : Outcome State Fault Refusal :=
  lengthChecked 4 len (.next (respondFields 16 4 (fun i => encRawSigned 16 (lane s.latch.a i)) s)) s

/-- `ENCS.UByte2N len=n`, 42_encode R190 with `A = 2`. -/
def execEncsUByte2N (len : Nat) (s : State) : Outcome State Fault Refusal :=
  lengthChecked 2 len (.next (respondFields 8 2 (fun i => encUNorm 8 (lane s.latch.a i)) s)) s

/-- `ENCS.UByte4N len=n`, 42_encode R190 with `A = 4`. -/
def execEncsUByte4N (len : Nat) (s : State) : Outcome State Fault Refusal :=
  lengthChecked 4 len (.next (respondFields 8 4 (fun i => encUNorm 8 (lane s.latch.a i)) s)) s

/-- `ENCS.UShort2N len=n`, 42_encode R190 with `A = 2`. -/
def execEncsUShort2N (len : Nat) (s : State) : Outcome State Fault Refusal :=
  lengthChecked 2 len (.next (respondFields 16 2 (fun i => encUNorm 16 (lane s.latch.a i)) s)) s

/-- `ENCS.UShort4N len=n`, 42_encode R190 with `A = 4`. -/
def execEncsUShort4N (len : Nat) (s : State) : Outcome State Fault Refusal :=
  lengthChecked 4 len (.next (respondFields 16 4 (fun i => encUNorm 16 (lane s.latch.a i)) s)) s

/-- `ENCS.Byte2N len=n`, 42_encode R190 with `A = 2`. -/
def execEncsByte2N (len : Nat) (s : State) : Outcome State Fault Refusal :=
  lengthChecked 2 len (.next (respondFields 8 2 (fun i => encSNorm 8 (lane s.latch.a i)) s)) s

/-- `ENCS.Byte4N len=n`, 42_encode R190 with `A = 4`. -/
def execEncsByte4N (len : Nat) (s : State) : Outcome State Fault Refusal :=
  lengthChecked 4 len (.next (respondFields 8 4 (fun i => encSNorm 8 (lane s.latch.a i)) s)) s

/-- `ENCS.Short2N len=n`, 42_encode R190 with `A = 2`. -/
def execEncsShort2N (len : Nat) (s : State) : Outcome State Fault Refusal :=
  lengthChecked 2 len (.next (respondFields 16 2 (fun i => encSNorm 16 (lane s.latch.a i)) s)) s

/-- `ENCS.Short4N len=n`, 42_encode R190 with `A = 4`. -/
def execEncsShort4N (len : Nat) (s : State) : Outcome State Fault Refusal :=
  lengthChecked 4 len (.next (respondFields 16 4 (fun i => encSNorm 16 (lane s.latch.a i)) s)) s

/-- `ENCS.Half2 len=n`, 42_encode R190 with `A = 2`. -/
def execEncsHalf2 (len : Nat) (s : State) : Outcome State Fault Refusal :=
  lengthChecked 2 len (.next (respondFields 16 2 (fun i => encHalf (lane s.latch.a i)) s)) s

/-- `ENCS.Half4 len=n`, 42_encode R190 with `A = 4`. -/
def execEncsHalf4 (len : Nat) (s : State) : Outcome State Fault Refusal :=
  lengthChecked 4 len (.next (respondFields 16 4 (fun i => encHalf (lane s.latch.a i)) s)) s

end Sys2Proof.Machine
end

