-- ==== Sys2Proof/Machine/EncodeTuple.lean ====
section
/-!
DEFINITION. ENC, float tuple to packed integer, one meaning per format (42_encode R168 to R185): field `i` of the
result is the family's lane function of lane `i` of `A` (R160, R161). ENC never fails (R189).
-/

namespace Sys2Proof.Machine

open Host (Outcome)

/-- `ENC.UByte2`, 42_encode R168. -/
def execEncUByte2 (s : State) : Outcome State Fault Refusal :=
  .next (respondFields 8 2 (fun i => encRawUnsigned 8 (lane s.latch.a i)) s)

/-- `ENC.UByte4`, 42_encode R169. -/
def execEncUByte4 (s : State) : Outcome State Fault Refusal :=
  .next (respondFields 8 4 (fun i => encRawUnsigned 8 (lane s.latch.a i)) s)

/-- `ENC.UShort2`, 42_encode R170. -/
def execEncUShort2 (s : State) : Outcome State Fault Refusal :=
  .next (respondFields 16 2 (fun i => encRawUnsigned 16 (lane s.latch.a i)) s)

/-- `ENC.UShort4`, 42_encode R171. -/
def execEncUShort4 (s : State) : Outcome State Fault Refusal :=
  .next (respondFields 16 4 (fun i => encRawUnsigned 16 (lane s.latch.a i)) s)

/-- `ENC.Byte2`, 42_encode R172. -/
def execEncByte2 (s : State) : Outcome State Fault Refusal :=
  .next (respondFields 8 2 (fun i => encRawSigned 8 (lane s.latch.a i)) s)

/-- `ENC.Byte4`, 42_encode R173. -/
def execEncByte4 (s : State) : Outcome State Fault Refusal :=
  .next (respondFields 8 4 (fun i => encRawSigned 8 (lane s.latch.a i)) s)

/-- `ENC.Short2`, 42_encode R174. -/
def execEncShort2 (s : State) : Outcome State Fault Refusal :=
  .next (respondFields 16 2 (fun i => encRawSigned 16 (lane s.latch.a i)) s)

/-- `ENC.Short4`, 42_encode R175. -/
def execEncShort4 (s : State) : Outcome State Fault Refusal :=
  .next (respondFields 16 4 (fun i => encRawSigned 16 (lane s.latch.a i)) s)

/-- `ENC.UByte2N`, 42_encode R176. -/
def execEncUByte2N (s : State) : Outcome State Fault Refusal :=
  .next (respondFields 8 2 (fun i => encUNorm 8 (lane s.latch.a i)) s)

/-- `ENC.UByte4N`, 42_encode R177. -/
def execEncUByte4N (s : State) : Outcome State Fault Refusal :=
  .next (respondFields 8 4 (fun i => encUNorm 8 (lane s.latch.a i)) s)

/-- `ENC.UShort2N`, 42_encode R178. -/
def execEncUShort2N (s : State) : Outcome State Fault Refusal :=
  .next (respondFields 16 2 (fun i => encUNorm 16 (lane s.latch.a i)) s)

/-- `ENC.UShort4N`, 42_encode R179. -/
def execEncUShort4N (s : State) : Outcome State Fault Refusal :=
  .next (respondFields 16 4 (fun i => encUNorm 16 (lane s.latch.a i)) s)

/-- `ENC.Byte2N`, 42_encode R180. -/
def execEncByte2N (s : State) : Outcome State Fault Refusal :=
  .next (respondFields 8 2 (fun i => encSNorm 8 (lane s.latch.a i)) s)

/-- `ENC.Byte4N`, 42_encode R181. -/
def execEncByte4N (s : State) : Outcome State Fault Refusal :=
  .next (respondFields 8 4 (fun i => encSNorm 8 (lane s.latch.a i)) s)

/-- `ENC.Short2N`, 42_encode R182. -/
def execEncShort2N (s : State) : Outcome State Fault Refusal :=
  .next (respondFields 16 2 (fun i => encSNorm 16 (lane s.latch.a i)) s)

/-- `ENC.Short4N`, 42_encode R183. -/
def execEncShort4N (s : State) : Outcome State Fault Refusal :=
  .next (respondFields 16 4 (fun i => encSNorm 16 (lane s.latch.a i)) s)

/-- `ENC.Half2`, 42_encode R184. -/
def execEncHalf2 (s : State) : Outcome State Fault Refusal :=
  .next (respondFields 16 2 (fun i => encHalf (lane s.latch.a i)) s)

/-- `ENC.Half4`, 42_encode R185. -/
def execEncHalf4 (s : State) : Outcome State Fault Refusal :=
  .next (respondFields 16 4 (fun i => encHalf (lane s.latch.a i)) s)

end Sys2Proof.Machine
end

