-- ==== Sys2Proof/Machine/Helper.lean ====
section
/-!
DEFINITION. The helper kernel: VCLAMP, VROUND, VTRUNC, VSAT, VMADD over 2 or 4 lanes (40_helper_kernel R105 to
R113). Result lane `i` is a function of lane `i` of the operands; lanes from `n` up are zero (R101). None of them fails (R100).
-/

namespace Sys2Proof.Machine

open Host (Outcome)

/-- `VCLAMP.2`, 40_helper_kernel R105. -/
def execVclamp2 (s : State) : Outcome State Fault Refusal :=
  .next (respondFields 32 2 (fun i => clamp1 (lane s.latch.a i) (lane s.latch.b i) (lane s.latch.c i)) s)

/-- `VCLAMP.4`, 40_helper_kernel R105. -/
def execVclamp4 (s : State) : Outcome State Fault Refusal :=
  .next (respondFields 32 4 (fun i => clamp1 (lane s.latch.a i) (lane s.latch.b i) (lane s.latch.c i)) s)

/-- `VROUND.2`, 40_helper_kernel R107. -/
def execVround2 (s : State) : Outcome State Fault Refusal :=
  .next (respondFields 32 2 (fun i => round1 (lane s.latch.a i)) s)

/-- `VROUND.4`, 40_helper_kernel R107. -/
def execVround4 (s : State) : Outcome State Fault Refusal :=
  .next (respondFields 32 4 (fun i => round1 (lane s.latch.a i)) s)

/-- `VTRUNC.2`, 40_helper_kernel R109. -/
def execVtrunc2 (s : State) : Outcome State Fault Refusal :=
  .next (respondFields 32 2 (fun i => trunc1 (lane s.latch.a i)) s)

/-- `VTRUNC.4`, 40_helper_kernel R109. -/
def execVtrunc4 (s : State) : Outcome State Fault Refusal :=
  .next (respondFields 32 4 (fun i => trunc1 (lane s.latch.a i)) s)

/-- `VSAT.2`, 40_helper_kernel R111. -/
def execVsat2 (s : State) : Outcome State Fault Refusal :=
  .next (respondFields 32 2 (fun i => sat1 (lane s.latch.a i)) s)

/-- `VSAT.4`, 40_helper_kernel R111. -/
def execVsat4 (s : State) : Outcome State Fault Refusal :=
  .next (respondFields 32 4 (fun i => sat1 (lane s.latch.a i)) s)

/-- `VMADD.2`, 40_helper_kernel R113. -/
def execVmadd2 (s : State) : Outcome State Fault Refusal :=
  .next (respondFields 32 2 (fun i => madd1 (lane s.latch.a i) (lane s.latch.b i) (lane s.latch.c i)) s)

/-- `VMADD.4`, 40_helper_kernel R113. -/
def execVmadd4 (s : State) : Outcome State Fault Refusal :=
  .next (respondFields 32 4 (fun i => madd1 (lane s.latch.a i) (lane s.latch.b i) (lane s.latch.c i)) s)

end Sys2Proof.Machine
end

