-- ==== Sys2Proof/Machine/Dispatch.lean ====
section
/-!
DEFINITION. `exec`: one arm per instruction, each one call of its meaning.
-/

namespace Sys2Proof.Machine

open Host (Outcome)

def exec (i : Instr) (s : State) : Host.Outcome State Fault Refusal :=
  match i with
  -- FROMP, 41_construct_pack
  | .frompUByte2 => Sys2Proof.Machine.execFrompUByte2 s
  | .frompUByte4 => Sys2Proof.Machine.execFrompUByte4 s
  | .frompUShort2 => Sys2Proof.Machine.execFrompUShort2 s
  | .frompUShort4 => Sys2Proof.Machine.execFrompUShort4 s
  | .frompByte2 => Sys2Proof.Machine.execFrompByte2 s
  | .frompByte4 => Sys2Proof.Machine.execFrompByte4 s
  | .frompShort2 => Sys2Proof.Machine.execFrompShort2 s
  | .frompShort4 => Sys2Proof.Machine.execFrompShort4 s
  | .frompUByte2N => Sys2Proof.Machine.execFrompUByte2N s
  | .frompUByte4N => Sys2Proof.Machine.execFrompUByte4N s
  | .frompUShort2N => Sys2Proof.Machine.execFrompUShort2N s
  | .frompUShort4N => Sys2Proof.Machine.execFrompUShort4N s
  | .frompByte2N => Sys2Proof.Machine.execFrompByte2N s
  | .frompByte4N => Sys2Proof.Machine.execFrompByte4N s
  | .frompShort2N => Sys2Proof.Machine.execFrompShort2N s
  | .frompShort4N => Sys2Proof.Machine.execFrompShort4N s
  | .frompHalf2 => Sys2Proof.Machine.execFrompHalf2 s
  | .frompHalf4 => Sys2Proof.Machine.execFrompHalf4 s
  -- PACK, 41_construct_pack
  | .packUByte2 => Sys2Proof.Machine.execPackUByte2 s
  | .packUByte4 => Sys2Proof.Machine.execPackUByte4 s
  | .packUShort2 => Sys2Proof.Machine.execPackUShort2 s
  | .packUShort4 => Sys2Proof.Machine.execPackUShort4 s
  | .packByte2 => Sys2Proof.Machine.execPackByte2 s
  | .packByte4 => Sys2Proof.Machine.execPackByte4 s
  | .packShort2 => Sys2Proof.Machine.execPackShort2 s
  | .packShort4 => Sys2Proof.Machine.execPackShort4 s
  | .packUByte2N => Sys2Proof.Machine.execPackUByte2N s
  | .packUByte4N => Sys2Proof.Machine.execPackUByte4N s
  | .packUShort2N => Sys2Proof.Machine.execPackUShort2N s
  | .packUShort4N => Sys2Proof.Machine.execPackUShort4N s
  | .packByte2N => Sys2Proof.Machine.execPackByte2N s
  | .packByte4N => Sys2Proof.Machine.execPackByte4N s
  | .packShort2N => Sys2Proof.Machine.execPackShort2N s
  | .packShort4N => Sys2Proof.Machine.execPackShort4N s
  | .packHalf2 => Sys2Proof.Machine.execPackHalf2 s
  | .packHalf4 => Sys2Proof.Machine.execPackHalf4 s
  -- UNPACK, 41_construct_pack
  | .unpackUByte2 => Sys2Proof.Machine.execUnpackUByte2 s
  | .unpackUByte4 => Sys2Proof.Machine.execUnpackUByte4 s
  | .unpackUShort2 => Sys2Proof.Machine.execUnpackUShort2 s
  | .unpackUShort4 => Sys2Proof.Machine.execUnpackUShort4 s
  | .unpackByte2 => Sys2Proof.Machine.execUnpackByte2 s
  | .unpackByte4 => Sys2Proof.Machine.execUnpackByte4 s
  | .unpackShort2 => Sys2Proof.Machine.execUnpackShort2 s
  | .unpackShort4 => Sys2Proof.Machine.execUnpackShort4 s
  | .unpackUByte2N => Sys2Proof.Machine.execUnpackUByte2N s
  | .unpackUByte4N => Sys2Proof.Machine.execUnpackUByte4N s
  | .unpackUShort2N => Sys2Proof.Machine.execUnpackUShort2N s
  | .unpackUShort4N => Sys2Proof.Machine.execUnpackUShort4N s
  | .unpackByte2N => Sys2Proof.Machine.execUnpackByte2N s
  | .unpackByte4N => Sys2Proof.Machine.execUnpackByte4N s
  | .unpackShort2N => Sys2Proof.Machine.execUnpackShort2N s
  | .unpackShort4N => Sys2Proof.Machine.execUnpackShort4N s
  | .unpackHalf2 => Sys2Proof.Machine.execUnpackHalf2 s
  | .unpackHalf4 => Sys2Proof.Machine.execUnpackHalf4 s
  -- ENC, 42_encode
  | .encUByte2 => Sys2Proof.Machine.execEncUByte2 s
  | .encUByte4 => Sys2Proof.Machine.execEncUByte4 s
  | .encUShort2 => Sys2Proof.Machine.execEncUShort2 s
  | .encUShort4 => Sys2Proof.Machine.execEncUShort4 s
  | .encByte2 => Sys2Proof.Machine.execEncByte2 s
  | .encByte4 => Sys2Proof.Machine.execEncByte4 s
  | .encShort2 => Sys2Proof.Machine.execEncShort2 s
  | .encShort4 => Sys2Proof.Machine.execEncShort4 s
  | .encUByte2N => Sys2Proof.Machine.execEncUByte2N s
  | .encUByte4N => Sys2Proof.Machine.execEncUByte4N s
  | .encUShort2N => Sys2Proof.Machine.execEncUShort2N s
  | .encUShort4N => Sys2Proof.Machine.execEncUShort4N s
  | .encByte2N => Sys2Proof.Machine.execEncByte2N s
  | .encByte4N => Sys2Proof.Machine.execEncByte4N s
  | .encShort2N => Sys2Proof.Machine.execEncShort2N s
  | .encShort4N => Sys2Proof.Machine.execEncShort4N s
  | .encHalf2 => Sys2Proof.Machine.execEncHalf2 s
  | .encHalf4 => Sys2Proof.Machine.execEncHalf4 s
  -- ENCS, 42_encode
  | .encsUByte2 len => Sys2Proof.Machine.execEncsUByte2 len s
  | .encsUByte4 len => Sys2Proof.Machine.execEncsUByte4 len s
  | .encsUShort2 len => Sys2Proof.Machine.execEncsUShort2 len s
  | .encsUShort4 len => Sys2Proof.Machine.execEncsUShort4 len s
  | .encsByte2 len => Sys2Proof.Machine.execEncsByte2 len s
  | .encsByte4 len => Sys2Proof.Machine.execEncsByte4 len s
  | .encsShort2 len => Sys2Proof.Machine.execEncsShort2 len s
  | .encsShort4 len => Sys2Proof.Machine.execEncsShort4 len s
  | .encsUByte2N len => Sys2Proof.Machine.execEncsUByte2N len s
  | .encsUByte4N len => Sys2Proof.Machine.execEncsUByte4N len s
  | .encsUShort2N len => Sys2Proof.Machine.execEncsUShort2N len s
  | .encsUShort4N len => Sys2Proof.Machine.execEncsUShort4N len s
  | .encsByte2N len => Sys2Proof.Machine.execEncsByte2N len s
  | .encsByte4N len => Sys2Proof.Machine.execEncsByte4N len s
  | .encsShort2N len => Sys2Proof.Machine.execEncsShort2N len s
  | .encsShort4N len => Sys2Proof.Machine.execEncsShort4N len s
  | .encsHalf2 len => Sys2Proof.Machine.execEncsHalf2 len s
  | .encsHalf4 len => Sys2Proof.Machine.execEncsHalf4 len s
  -- DEC, 43_decode
  | .decUByte2 => Sys2Proof.Machine.execDecUByte2 s
  | .decUByte4 => Sys2Proof.Machine.execDecUByte4 s
  | .decUShort2 => Sys2Proof.Machine.execDecUShort2 s
  | .decUShort4 => Sys2Proof.Machine.execDecUShort4 s
  | .decByte2 => Sys2Proof.Machine.execDecByte2 s
  | .decByte4 => Sys2Proof.Machine.execDecByte4 s
  | .decShort2 => Sys2Proof.Machine.execDecShort2 s
  | .decShort4 => Sys2Proof.Machine.execDecShort4 s
  | .decUByte2N => Sys2Proof.Machine.execDecUByte2N s
  | .decUByte4N => Sys2Proof.Machine.execDecUByte4N s
  | .decUShort2N => Sys2Proof.Machine.execDecUShort2N s
  | .decUShort4N => Sys2Proof.Machine.execDecUShort4N s
  | .decByte2N => Sys2Proof.Machine.execDecByte2N s
  | .decByte4N => Sys2Proof.Machine.execDecByte4N s
  | .decShort2N => Sys2Proof.Machine.execDecShort2N s
  | .decShort4N => Sys2Proof.Machine.execDecShort4N s
  | .decHalf2 => Sys2Proof.Machine.execDecHalf2 s
  | .decHalf4 => Sys2Proof.Machine.execDecHalf4 s
  -- CMPEQ, 41_construct_pack
  | .cmpeqUByte2 => Sys2Proof.Machine.execCmpeqUByte2 s
  | .cmpeqUByte4 => Sys2Proof.Machine.execCmpeqUByte4 s
  | .cmpeqUShort2 => Sys2Proof.Machine.execCmpeqUShort2 s
  | .cmpeqUShort4 => Sys2Proof.Machine.execCmpeqUShort4 s
  | .cmpeqByte2 => Sys2Proof.Machine.execCmpeqByte2 s
  | .cmpeqByte4 => Sys2Proof.Machine.execCmpeqByte4 s
  | .cmpeqShort2 => Sys2Proof.Machine.execCmpeqShort2 s
  | .cmpeqShort4 => Sys2Proof.Machine.execCmpeqShort4 s
  | .cmpeqUByte2N => Sys2Proof.Machine.execCmpeqUByte2N s
  | .cmpeqUByte4N => Sys2Proof.Machine.execCmpeqUByte4N s
  | .cmpeqUShort2N => Sys2Proof.Machine.execCmpeqUShort2N s
  | .cmpeqUShort4N => Sys2Proof.Machine.execCmpeqUShort4N s
  | .cmpeqByte2N => Sys2Proof.Machine.execCmpeqByte2N s
  | .cmpeqByte4N => Sys2Proof.Machine.execCmpeqByte4N s
  | .cmpeqShort2N => Sys2Proof.Machine.execCmpeqShort2N s
  | .cmpeqShort4N => Sys2Proof.Machine.execCmpeqShort4N s
  | .cmpeqHalf2 => Sys2Proof.Machine.execCmpeqHalf2 s
  | .cmpeqHalf4 => Sys2Proof.Machine.execCmpeqHalf4 s
  -- VCLAMP, 40_helper_kernel
  | .vclamp2 => Sys2Proof.Machine.execVclamp2 s
  | .vclamp4 => Sys2Proof.Machine.execVclamp4 s
  -- VROUND, 40_helper_kernel
  | .vround2 => Sys2Proof.Machine.execVround2 s
  | .vround4 => Sys2Proof.Machine.execVround4 s
  -- VTRUNC, 40_helper_kernel
  | .vtrunc2 => Sys2Proof.Machine.execVtrunc2 s
  | .vtrunc4 => Sys2Proof.Machine.execVtrunc4 s
  -- VSAT, 40_helper_kernel
  | .vsat2 => Sys2Proof.Machine.execVsat2 s
  | .vsat4 => Sys2Proof.Machine.execVsat4 s
  -- VMADD, 40_helper_kernel
  | .vmadd2 => Sys2Proof.Machine.execVmadd2 s
  | .vmadd4 => Sys2Proof.Machine.execVmadd4 s

end Sys2Proof.Machine
end

