-- ==== Sys2Proof/Machine/Edge.lean ====
section
/-!
DEFINITION. What one rising edge of `clk` does (10_state R23; assumption log 1), the decoding of the latched command word
included.
-/

namespace Sys2Proof.Machine

open Host (Outcome)

/-- The edge on which the response becomes due: the latched command word is decoded and its instruction run; an illegal
word raises `ILLEGAL_COMMAND` and has no other effect (30_encoding R71, 60_exceptions R245). -/
def runLatched (s : State) : Outcome State Fault Refusal :=
  match decode s.latch.cmd with
  | .ok i => exec i s
  | .error _ => .next (raise .illegalCommand s)

/-- One rising edge of `clk`. Reset comes first (70_reset_and_hazards R270); a presented response is held until it is taken
(R274); a request in flight waits for its `LATENCY` edges and is then answered (R277); a request is accepted only when
`busy = 0` (10_state R23). -/
def risingEdge (s : State) : Outcome State Fault Refusal :=
  if s.pins.rst then .next (hostDrives (resetEdge s))
  else if s.rspValid then
    if s.pins.rspReady then .next (hostDrives (takeEdge s)) else .next (hostDrives s)
  else if s.busy then
    if s.due then afterEdge (runLatched s) else .next (hostDrives (waitEdge s))
  else if s.pins.reqValid then .next (hostDrives (acceptEdge s))
  else .next (hostDrives (idleEdge s))

end Sys2Proof.Machine
end

