-- ==== Sys2Proof/Machine/Step.lean ====
section
/-!
DEFINITION. One step of the machine is one rising edge of `clk` (10_state R23; assumption log 1).
-/

namespace Sys2Proof.Machine

open Host (Outcome)

/-- One step: one rising edge of `clk`. -/
def step (s : State) : Outcome State Fault Refusal := risingEdge s

/-- `s` with the command word `w` where the next edge runs it: latched, its response due (assumption log 12). -/
def State.withFetchWord (s : State) (nbits w : Nat) : State := placeCommand s nbits w

end Sys2Proof.Machine
end

