-- ==== Sys2Proof/Machine/HostView.lean ====
section
/-!
DEFINITION. What the spec fixes on the host's side of the block: the text of a command (30_encoding R75), the hexadecimal
rendering of a packed integer (30_encoding R72) and its bytes in a host's memory (20_memory R42). No instruction uses these.
-/

namespace Sys2Proof

/-- The mnemonic of a command as the opcode table spells it (30_encoding R61, R66, R75). -/
def Instr.mnemonic : Instr → String
  | .frompUByte2 => "FROMP.UByte2"
  | .frompUByte4 => "FROMP.UByte4"
  | .frompUShort2 => "FROMP.UShort2"
  | .frompUShort4 => "FROMP.UShort4"
  | .frompByte2 => "FROMP.Byte2"
  | .frompByte4 => "FROMP.Byte4"
  | .frompShort2 => "FROMP.Short2"
  | .frompShort4 => "FROMP.Short4"
  | .frompUByte2N => "FROMP.UByte2N"
  | .frompUByte4N => "FROMP.UByte4N"
  | .frompUShort2N => "FROMP.UShort2N"
  | .frompUShort4N => "FROMP.UShort4N"
  | .frompByte2N => "FROMP.Byte2N"
  | .frompByte4N => "FROMP.Byte4N"
  | .frompShort2N => "FROMP.Short2N"
  | .frompShort4N => "FROMP.Short4N"
  | .frompHalf2 => "FROMP.Half2"
  | .frompHalf4 => "FROMP.Half4"
  | .packUByte2 => "PACK.UByte2"
  | .packUByte4 => "PACK.UByte4"
  | .packUShort2 => "PACK.UShort2"
  | .packUShort4 => "PACK.UShort4"
  | .packByte2 => "PACK.Byte2"
  | .packByte4 => "PACK.Byte4"
  | .packShort2 => "PACK.Short2"
  | .packShort4 => "PACK.Short4"
  | .packUByte2N => "PACK.UByte2N"
  | .packUByte4N => "PACK.UByte4N"
  | .packUShort2N => "PACK.UShort2N"
  | .packUShort4N => "PACK.UShort4N"
  | .packByte2N => "PACK.Byte2N"
  | .packByte4N => "PACK.Byte4N"
  | .packShort2N => "PACK.Short2N"
  | .packShort4N => "PACK.Short4N"
  | .packHalf2 => "PACK.Half2"
  | .packHalf4 => "PACK.Half4"
  | .unpackUByte2 => "UNPACK.UByte2"
  | .unpackUByte4 => "UNPACK.UByte4"
  | .unpackUShort2 => "UNPACK.UShort2"
  | .unpackUShort4 => "UNPACK.UShort4"
  | .unpackByte2 => "UNPACK.Byte2"
  | .unpackByte4 => "UNPACK.Byte4"
  | .unpackShort2 => "UNPACK.Short2"
  | .unpackShort4 => "UNPACK.Short4"
  | .unpackUByte2N => "UNPACK.UByte2N"
  | .unpackUByte4N => "UNPACK.UByte4N"
  | .unpackUShort2N => "UNPACK.UShort2N"
  | .unpackUShort4N => "UNPACK.UShort4N"
  | .unpackByte2N => "UNPACK.Byte2N"
  | .unpackByte4N => "UNPACK.Byte4N"
  | .unpackShort2N => "UNPACK.Short2N"
  | .unpackShort4N => "UNPACK.Short4N"
  | .unpackHalf2 => "UNPACK.Half2"
  | .unpackHalf4 => "UNPACK.Half4"
  | .encUByte2 => "ENC.UByte2"
  | .encUByte4 => "ENC.UByte4"
  | .encUShort2 => "ENC.UShort2"
  | .encUShort4 => "ENC.UShort4"
  | .encByte2 => "ENC.Byte2"
  | .encByte4 => "ENC.Byte4"
  | .encShort2 => "ENC.Short2"
  | .encShort4 => "ENC.Short4"
  | .encUByte2N => "ENC.UByte2N"
  | .encUByte4N => "ENC.UByte4N"
  | .encUShort2N => "ENC.UShort2N"
  | .encUShort4N => "ENC.UShort4N"
  | .encByte2N => "ENC.Byte2N"
  | .encByte4N => "ENC.Byte4N"
  | .encShort2N => "ENC.Short2N"
  | .encShort4N => "ENC.Short4N"
  | .encHalf2 => "ENC.Half2"
  | .encHalf4 => "ENC.Half4"
  | .encsUByte2 _ => "ENCS.UByte2"
  | .encsUByte4 _ => "ENCS.UByte4"
  | .encsUShort2 _ => "ENCS.UShort2"
  | .encsUShort4 _ => "ENCS.UShort4"
  | .encsByte2 _ => "ENCS.Byte2"
  | .encsByte4 _ => "ENCS.Byte4"
  | .encsShort2 _ => "ENCS.Short2"
  | .encsShort4 _ => "ENCS.Short4"
  | .encsUByte2N _ => "ENCS.UByte2N"
  | .encsUByte4N _ => "ENCS.UByte4N"
  | .encsUShort2N _ => "ENCS.UShort2N"
  | .encsUShort4N _ => "ENCS.UShort4N"
  | .encsByte2N _ => "ENCS.Byte2N"
  | .encsByte4N _ => "ENCS.Byte4N"
  | .encsShort2N _ => "ENCS.Short2N"
  | .encsShort4N _ => "ENCS.Short4N"
  | .encsHalf2 _ => "ENCS.Half2"
  | .encsHalf4 _ => "ENCS.Half4"
  | .decUByte2 => "DEC.UByte2"
  | .decUByte4 => "DEC.UByte4"
  | .decUShort2 => "DEC.UShort2"
  | .decUShort4 => "DEC.UShort4"
  | .decByte2 => "DEC.Byte2"
  | .decByte4 => "DEC.Byte4"
  | .decShort2 => "DEC.Short2"
  | .decShort4 => "DEC.Short4"
  | .decUByte2N => "DEC.UByte2N"
  | .decUByte4N => "DEC.UByte4N"
  | .decUShort2N => "DEC.UShort2N"
  | .decUShort4N => "DEC.UShort4N"
  | .decByte2N => "DEC.Byte2N"
  | .decByte4N => "DEC.Byte4N"
  | .decShort2N => "DEC.Short2N"
  | .decShort4N => "DEC.Short4N"
  | .decHalf2 => "DEC.Half2"
  | .decHalf4 => "DEC.Half4"
  | .cmpeqUByte2 => "CMPEQ.UByte2"
  | .cmpeqUByte4 => "CMPEQ.UByte4"
  | .cmpeqUShort2 => "CMPEQ.UShort2"
  | .cmpeqUShort4 => "CMPEQ.UShort4"
  | .cmpeqByte2 => "CMPEQ.Byte2"
  | .cmpeqByte4 => "CMPEQ.Byte4"
  | .cmpeqShort2 => "CMPEQ.Short2"
  | .cmpeqShort4 => "CMPEQ.Short4"
  | .cmpeqUByte2N => "CMPEQ.UByte2N"
  | .cmpeqUByte4N => "CMPEQ.UByte4N"
  | .cmpeqUShort2N => "CMPEQ.UShort2N"
  | .cmpeqUShort4N => "CMPEQ.UShort4N"
  | .cmpeqByte2N => "CMPEQ.Byte2N"
  | .cmpeqByte4N => "CMPEQ.Byte4N"
  | .cmpeqShort2N => "CMPEQ.Short2N"
  | .cmpeqShort4N => "CMPEQ.Short4N"
  | .cmpeqHalf2 => "CMPEQ.Half2"
  | .cmpeqHalf4 => "CMPEQ.Half4"
  | .vclamp2 => "VCLAMP.2"
  | .vclamp4 => "VCLAMP.4"
  | .vround2 => "VROUND.2"
  | .vround4 => "VROUND.4"
  | .vtrunc2 => "VTRUNC.2"
  | .vtrunc4 => "VTRUNC.4"
  | .vsat2 => "VSAT.2"
  | .vsat4 => "VSAT.4"
  | .vmadd2 => "VMADD.2"
  | .vmadd4 => "VMADD.4"

namespace Machine

/-- The assembler text of a command: `<MNEMONIC>.<format>`, `ENCS.<format> len=<n>`, `<MNEMONIC>.<lanes>` (30_encoding
R75). -/
def commandText (i : Instr) : String :=
  if i.fields.op = 0x5 then i.mnemonic ++ " len=" ++ toString i.fields.len else i.mnemonic

/-- The legal instructions: the seven format operations (ENCS with each `LEN`) and the five helpers (30_encoding R71). -/
def legalInstrs : List Instr :=
  Format.all.flatMap (fun f =>
    [.fromp f, .pack f, .unpack f, .enc f] ++ (List.range 8).map (fun n => .encs n f) ++ [.dec f, .cmpeq f])
  ++ [Lanes.two, Lanes.four].flatMap (fun n => [.vclamp n, .vround n, .vtrunc n, .vsat n, .vmadd n])

/-- A line of source without its comment, which a `;` starts (30_encoding R75), and without the blanks at its end, whether or
not a comment follows them. That trailing blanks are dropped is the model's (DESIGN CHOICE: R75 is silent on blanks;
assumption log 21). -/
def stripComment (line : String) : String :=
  String.ofList ((line.toList.takeWhile (· ≠ ';')).reverse.dropWhile (· = ' ')).reverse

/-- The assembler: the word of the command a line spells, case-sensitive (30_encoding R75). Any other line has none, so no
blank may lead the line and exactly one stands before `len=` (DESIGN CHOICE; assumption log 21). -/
def assemble (line : String) : Option Cmd :=
  (legalInstrs.find? (fun i => commandText i == stripComment line)).map encode

/-- One digit `0-9A-F` (30_encoding R72). -/
def hexDigit (n : Nat) : Char := if n < 10 then Char.ofNat (48 + n) else Char.ofNat (55 + n)

/-- The `k` low hexadecimal digits of `p`, most significant first. -/
def hexDigits : Nat → Nat → List Char
  | 0, _ => []
  | k + 1, p => hexDigit (p / 16 ^ k % 16) :: hexDigits k p

/-- A packed integer as text: `W/4` uppercase digits, leading zeros kept, no prefix (30_encoding R72). -/
def renderHex (f : Format) (p : BitVec f.width) : String := String.ofList (hexDigits (f.width / 4) p.toNat)

/-- The byte order of a host (20_memory R42; 93_implementation_defined U2: a parameter of a model of a host). -/
inductive ByteOrder where
  | little
  | big
  deriving DecidableEq, Repr

/-- The bytes of a stored packed integer, lowest address first: byte `k` is `P[8k+7:8k]` on a little-endian host, and a
big-endian host reverses them over the whole integer, not per component (20_memory R42). -/
def hostBytes (order : ByteOrder) (f : Format) (p : BitVec f.width) : List (BitVec 8) :=
  let bytes := (List.range (f.width / 8)).map (fun k => p.extractLsb' (8 * k) 8)
  match order with
  | .little => bytes
  | .big => bytes.reverse

end Machine

end Sys2Proof
end

