-- ==== Sys2Proof/Safety.lean ====
section
/-!
DEFINITION. The terms the claims use: what a run is, what a correct response is, what an instruction may change, what the
host can see, and what it means for a number to be rounded as the spec says.
-/

namespace Sys2Proof.Machine

open Host (Outcome)

/-- `n` rising edges, one after the other. -/
def run : Nat → State → Outcome State Fault Refusal
  | 0, s => .next s
  | n + 1, s =>
    match step s with
    | .next t => run n t
    | .fault r => .fault r
    | .refused r => .refused r

/-- The response the block gives to a request: `exec(cmd, A, B_op, C) -> (status, R)` as a total function (10_state R20).
The state it is read from does not matter (10_state R20), so it is the reset state with the request latched. -/
def answer (q : Request) : Response :=
  match runLatched { State.reset with latch := q } with
  | .next t => { status := t.rspStatus, data := t.rspData }
  | .fault _ => { status := 3, data := 0 }
  | .refused _ => { status := 3, data := 0 }

/-- The request that presents the command word of `i` with three operand buses. -/
def command (i : Instr) (a b c : Bus) : Request := { cmd := encode i, a := a, b := b, c := c }

/-- A response is presented in `t` and nothing else has changed since `s`: not the pins or the host's moves, not `busy`,
not the latch, not the latency count, not a free value, not the responses taken. -/
def OnlyResponse (s t : State) : Prop :=
  t = { s with rspValid := true, rspStatus := t.rspStatus, rspData := t.rspData }

/-- `t` answers `OK` with `n` fields of `w` bits, field `i` being `f i`, every other bit of `R` zero, and nothing else has
changed since `s`. -/
def AnswersFields (w n : Nat) (f : Nat → BitVec w) (s t : State) : Prop :=
  OnlyResponse s t ∧ t.rspStatus = 0 ∧ (∀ i, i < n → t.rspData.extractLsb' (w * i) w = f i) ∧
    ∀ k, w * n ≤ k → t.rspData.getLsbD k = false

/-- The invariant of every reachable state: a presented response belongs to an accepted request (10_state R22) and is the
answer to the latched request (10_state R20), so that its status is one of the three (30_encoding R70); a request that
waits has waited fewer than `LATENCY` edges (70_reset_and_hazards R277, with `LATENCY >= 1`). -/
def State.Inv (s : State) : Prop :=
  (s.rspValid = true → s.busy = true ∧ answer s.latch = { status := s.rspStatus, data := s.rspData }) ∧
    (s.busy = true → s.rspValid = false → s.elapsed < max 1 s.latency)

/-- Two states that differ at most in what the spec calls unspecified and unobservable: the latch and the latency count
while `busy = 0`, the response data ports while `rsp_valid = 0`, and the index of the free values (10_state R33;
93_implementation_defined S5, S6). -/
def SameView (s t : State) : Prop :=
  s.pins = t.pins ∧ s.moves = t.moves ∧ s.latency = t.latency ∧ s.taken = t.taken ∧ s.busy = t.busy ∧
    s.rspValid = t.rspValid ∧ (s.busy = true → s.latch = t.latch ∧ s.elapsed = t.elapsed) ∧
    (s.rspValid = true → s.rspStatus = t.rspStatus ∧ s.rspData = t.rspData)

/-- Each of the next `n` edges samples `rst = 0`: the coming one from the pins, the later ones from the host's moves, and
after the last move the levels stay. -/
def resetLow (n : Nat) (s : State) : Prop := ∀ p ∈ (s.pins :: s.moves).take n, p.rst = false

/-- A host that presents each request in turn, holds it, and takes each response at once, with `rst = 0`: each transaction
lasts `latency + 2` edges (one accepts, `latency` edges later the response is presented, the next edge takes it;
70_reset_and_hazards R276, R277). -/
def hostScript (latency : Nat) (qs : List Request) : List Pins :=
  qs.flatMap (fun q => List.replicate (latency + 2) { rst := false, reqValid := true, req := q, rspReady := true })

/-- One of the five conditions of 30_encoding R71 holds of the fields of a command word. -/
def IllegalFields (rsv len fmt op : Nat) : Prop :=
  rsv ≠ 0 ∨ (op = 0x0 ∨ op = 0xD ∨ op = 0xE ∨ op = 0xF) ∨
    ((0x1 ≤ op ∧ op ≤ 0x7) ∧ ¬(fmt ≤ 0x0F ∨ fmt = 0x12 ∨ fmt = 0x13)) ∨
    ((0x8 ≤ op ∧ op ≤ 0xC) ∧ fmt / 2 ≠ 0) ∨ (op ≠ 0x5 ∧ len ≠ 0)

/-- The command word is illegal: 30_encoding R71 on the fields `{RSV[3:0], LEN[2:0], FMT[4:0], OP[3:0]}` of R60. -/
def IllegalWord (w : Cmd) : Prop :=
  IllegalFields (w.toNat / 4096) (w.toNat / 512 % 8) (w.toNat / 16 % 32) (w.toNat % 16)

/-- `n` is the integer nearest to `v` units of 2^-149, the even one on a tie (40_helper_kernel R106). -/
def NearestEvenInt (n v : Int) : Prop :=
  2 * |n * (one : Int) - v| ≤ (one : Int) ∧ (2 * |n * (one : Int) - v| = (one : Int) → n % 2 = 0)

/-- The magnitude, in units of the subnormal grid, of the exponent and fraction fields `b` of a format with `p` fraction
bits (00_scope R11, R12). -/
def patternMagnitude (p b : Nat) : Nat :=
  if b / 2 ^ p = 0 then b % 2 ^ p else (2 ^ p + b % 2 ^ p) * 2 ^ (b / 2 ^ p - 1)

/-- The distance between the value of the fields `b` and `num / den` units, times `den`. -/
def patternDistance (p b num den : Nat) : Int := |(patternMagnitude p b : Int) * den - num|

/-- The fields `r` are `num / den` units rounded as 00_scope R13 says, for a format with `p` fraction bits and infinity
pattern `top`: infinity exactly when the magnitude is at least `limit` units; else no finite pattern is nearer, and where
another is as near the chosen fraction is even. -/
def RoundsTo (p top limit num den r : Nat) : Prop :=
  r ≤ top ∧ (r = top ↔ limit * den ≤ num) ∧
    (r < top → ∀ b, b < top → b ≠ r →
      patternDistance p r num den ≤ patternDistance p b num den ∧
      (patternDistance p r num den = patternDistance p b num den → r % 2 = 0))

/-- Rounding to binary32: overflow at `2^128 - 2^103`, that is `(2^25 - 1) x 2^252` units of 2^-149 (00_scope R13). -/
def RoundsTo32 (num den r : Nat) : Prop := RoundsTo 23 0x7F800000 ((2 ^ 25 - 1) * 2 ^ 252) num den r

/-- Rounding to binary16: overflow at 65520, that is `4095 x 2^28` units of 2^-24 (00_scope R13). -/
def RoundsTo16 (num den r : Nat) : Prop := RoundsTo 10 0x7C00 (4095 * 2 ^ 28) num den r

/-- A binary16 NaN pattern whose quiet bit is clear: exponent 31, fraction not 0, bit 9 clear (42_encode R191). -/
def signallingHalf (c : Nat) : Prop := c / 2 ^ 10 % 2 ^ 5 = 31 ∧ c % 2 ^ 10 ≠ 0 ∧ c / 2 ^ 9 % 2 = 0

/-- The magnitude of a finite binary16 pattern in units of 2^-24, and its sign (00_scope R12). -/
def halfValue (h : BitVec 16) : Int :=
  let m : Int := (patternMagnitude 10 (h.toNat % 2 ^ 15) : Nat)
  if h.getLsbD 15 then -m else m

end Sys2Proof.Machine
end

