-- ==== Sys2Proof/Certificates/Slice0/Obligations.lean ====
section
/-!
DEFINITION. The statements about the model, for the provers. The operands of an instruction are in the request latch
(`s.latch.a`, `s.latch.b`, `s.latch.c`); units of a value are 2^-149 and `one` is `2^149` of them.
-/

open Sys2Proof Sys2Proof.Machine

/-- For every well-formed instruction i of the whole opcode table, with every LEN value ENCS admits, decode (encode i)
is i. (30_encoding section 1 (R60, R61, R62, R63); 30_encoding R66) -/
def Obligations.DecodeOfEncodeIsTheInstruction : Prop :=
  ∀ i : Instr, i.wellFormed = true → decode (encode i) = .ok i

/-- For every command word w and instruction i: if decode w is i, then i is well formed and encode i is w, so no bit of
a legal word is ignored. (30_encoding R65) -/
def Obligations.EncodeOfDecodeIsTheWord : Prop :=
  ∀ (w : Cmd) (i : Instr), decode w = .ok i → i.wellFormed = true ∧ encode i = w

/-- For every state whose next edge answers the latched request (rst = 0, busy, no response presented yet, LATENCY
reached): if the latched word meets one of the five conditions of R71, the step presents status 10 with R = 0 and
changes nothing else but the host driving its next levels; if it meets none, the word decodes to an instruction, the
step runs it and the status is not 10. The legal words are 262: the 262 instructions of legalInstrs have distinct
words, and these are exactly the words that meet none of the conditions. That the response appears exactly LATENCY
edges after acceptance (assumption log 10), is computed from the latch on that edge (log 22), and that the host then
drives its next levels (log 1) is the model's reading, not R71's. (30_encoding R71; 70_reset_and_hazards R277;
10_state R23; assumption log 1, 10, 22) -/
def Obligations.IllegalWordsAnswerIllegalCommand : Prop :=
  (∀ s : State, s.pins.rst = false → s.rspValid = false → s.busy = true → s.latency ≤ s.elapsed + 1 →
    IllegalWord s.latch.cmd →
      step s = .next (hostDrives { s with rspValid := true, rspStatus := 2, rspData := 0 })) ∧
  (∀ s : State, s.pins.rst = false → s.rspValid = false → s.busy = true → s.latency ≤ s.elapsed + 1 →
    ¬IllegalWord s.latch.cmd →
      ∃ i t, decode s.latch.cmd = .ok i ∧ exec i s = .next t ∧ step s = .next (hostDrives t) ∧ t.rspStatus ≠ 2) ∧
  legalInstrs.length = 262 ∧ (legalInstrs.map encode).Nodup ∧
  ∀ w : Cmd, ¬IllegalWord w ↔ ∃ i ∈ legalInstrs, encode i = w

/-- The six example words of R65, and one word of each of the seven operations they leave out (FROMP, PACK, UNPACK,
VROUND, VTRUNC, VSAT, VMADD), written out from the test vectors, decode to the instructions they stand for.
(30_encoding R65; 95_test_vectors section 1 (E1, E5); 95_test_vectors section 2.2; 95_test_vectors section 2.3) -/
def Obligations.CommandWordsOfTheSpecDecode : Prop :=
  decode 0x0054 = .ok .encByte4 ∧ decode 0x00E6 = .ok .decShort2N ∧ decode 0x0655 = .ok (.encsByte4 3) ∧
  decode 0x0008 = .ok .vclamp2 ∧ decode 0x0018 = .ok .vclamp4 ∧ decode 0x0137 = .ok .cmpeqHalf4 ∧
  decode 0x0051 = .ok .frompByte4 ∧ decode 0x0062 = .ok .packShort2 ∧ decode 0x0013 = .ok .unpackUByte4 ∧
  decode 0x0019 = .ok .vround4 ∧ decode 0x000A = .ok .vtrunc2 ∧ decode 0x001B = .ok .vsat4 ∧
  decode 0x000C = .ok .vmadd2

/-- When rst = 0, a request is in flight, its response is not yet presented and its LATENCY edges are reached at this
edge, and the latched word decodes to i: i is well formed, and the step is exec of i at that state, after which the
host drives its next levels; the step adds nothing else. That this is the edge exactly LATENCY edges after
acceptance (assumption log 10), that the operation is computed from the latch on it (log 22), and that the host
drives its next levels after it (log 1) is the model's reading. (10_state R23; 70_reset_and_hazards R277; assumption
log 1, 10, 22) -/
def Obligations.StepRunsTheDecodedInstruction : Prop :=
  ∀ (s : State) (i : Instr), s.pins.rst = false → s.rspValid = false → s.busy = true → s.latency ≤ s.elapsed + 1 →
    decode s.latch.cmd = .ok i → i.wellFormed = true ∧ step s = afterEdge (exec i s)

/-- For every state, reachable or not, step answers a next state. The block never stops of its own accord, and no
operation can trap. (70_reset_and_hazards R278, R279; 60_exceptions R241) -/
def Obligations.StepNeverStops : Prop :=
  ∀ s : State, ∃ t, step s = .next t

/-- For each of the 136 instructions and every state, exec answers a next state in which a response is presented and
every other piece of state (pins, the host's moves, busy, the latch, the latency count, the parameter LATENCY, the
free index, the responses taken) is unchanged. The block has no memory, so there is no byte to leave unchanged.
(10_state R20, R27; 60_exceptions R246; 20_memory R40) -/
def Obligations.ExecChangesOnlyTheResponse : Prop :=
  ∀ (i : Instr) (s : State), ∃ t, exec i s = .next t ∧ OnlyResponse s t

/-- For every state, running the latched command answers a next state, changes nothing but the response ports, and the
response is answer of the latched request: two states that agree on the latch give the same response whatever else
they hold. (R20) -/
def Obligations.AnswerDependsOnTheRequestOnly : Prop :=
  ∀ s : State, ∃ t, runLatched s = .next t ∧ OnlyResponse s t ∧
    answer s.latch = { status := t.rspStatus, data := t.rspData }

/-- FROMP, UNPACK and DEC depend on the low W bits of A only; CMPEQ on the low W bits of A and B_op; PACK on the low B
bits of lanes 0..A-1 of A; ENC and ENCS on lanes 0..A-1 of A; VROUND, VTRUNC and VSAT on lanes 0..n-1 of A; VCLAMP
and VMADD on lanes 0..n-1 of A, B_op and C. (10_state R24; 30_encoding R64; 93_implementation_defined S3) -/
def Obligations.UnnamedOperandBitsHaveNoEffect : Prop :=
  (∀ (f : Format) (a a' b b' c c' : Bus), a.toNat % 2 ^ f.width = a'.toNat % 2 ^ f.width →
    answer (command (.fromp f) a b c) = answer (command (.fromp f) a' b' c') ∧
    answer (command (.unpack f) a b c) = answer (command (.unpack f) a' b' c') ∧
    answer (command (.dec f) a b c) = answer (command (.dec f) a' b' c') ∧
    (b.toNat % 2 ^ f.width = b'.toNat % 2 ^ f.width →
      answer (command (.cmpeq f) a b c) = answer (command (.cmpeq f) a' b' c'))) ∧
  (∀ (f : Format) (a a' b b' c c' : Bus),
    (∀ i, i < f.arity → (lane a i).toNat % 2 ^ f.bits = (lane a' i).toNat % 2 ^ f.bits) →
      answer (command (.pack f) a b c) = answer (command (.pack f) a' b' c')) ∧
  (∀ (f : Format) (len : Nat) (a a' b b' c c' : Bus), (∀ i, i < f.arity → lane a i = lane a' i) →
    answer (command (.enc f) a b c) = answer (command (.enc f) a' b' c') ∧
    answer (command (.encs len f) a b c) = answer (command (.encs len f) a' b' c')) ∧
  (∀ (n : Lanes) (a a' b b' c c' : Bus), (∀ i, i < n.count → lane a i = lane a' i) →
    answer (command (.vround n) a b c) = answer (command (.vround n) a' b' c') ∧
    answer (command (.vtrunc n) a b c) = answer (command (.vtrunc n) a' b' c') ∧
    answer (command (.vsat n) a b c) = answer (command (.vsat n) a' b' c') ∧
    ((∀ i, i < n.count → lane b i = lane b' i ∧ lane c i = lane c' i) →
      answer (command (.vclamp n) a b c) = answer (command (.vclamp n) a' b' c') ∧
      answer (command (.vmadd n) a b c) = answer (command (.vmadd n) a' b' c')))

/-- For every instruction, state and next state of exec: the status is 01 exactly when the instruction is ENCS of a
format with LEN below the format's arity; it is 00 otherwise (so never 10 or 11); and with status 01 the result is
zero. (60_exceptions R242; 30_encoding R70) -/
def Obligations.StatusOfEveryInstruction : Prop :=
  ∀ (i : Instr) (s t : State), exec i s = .next t →
    (t.rspStatus = 1 ↔ ∃ f len, i = .encs len f ∧ len < f.arity) ∧
    (t.rspStatus = 0 ∨ t.rspStatus = 1) ∧ (t.rspStatus = 1 → t.rspData = 0)

/-- In the reset state busy = 0, rsp_valid = 0 and req_ready = 1, and the invariant State.Inv holds. (10_state R33;
70_reset_and_hazards R270) -/
def Obligations.ResetIsIdle : Prop :=
  State.reset.busy = false ∧ State.reset.rspValid = false ∧ State.reset.reqReady = true ∧ State.reset.Inv

/-- From every state that meets State.Inv, a step gives a state that meets it: whenever a response is presented a
request is in flight and the response is the answer to the latched request, and a waiting request has waited fewer
than LATENCY edges. That last clause is the model's reading: its own count of edges (assumption log 7), a response
after exactly LATENCY edges where R23 says LATENCY or more (log 10), and a LATENCY of 0 taken as 1 (log 2).
(10_state R20, R22; 70_reset_and_hazards R276, R277; assumption log 2, 7, 10) -/
def Obligations.EveryStepKeepsInv : Prop :=
  ∀ s t : State, s.Inv → step s = .next t → t.Inv

/-- For every state with rst = 1, whatever it holds and whatever the other pins say: the step answers a next state with
busy = 0, rsp_valid = 0 and req_ready = 1 (no request is accepted), the responses taken are unchanged (a presented
response is withdrawn, not taken), and LATENCY is unchanged; the host then drives the first of its later moves, or
leaves its levels as they are when it has none, and that move leaves the list. That rst = 1 wins over rsp_ready = 1
at the same edge is the model's reading (assumption log 9), and so is that req_ready is 1 right after this edge even
while rst stays high, since R270 gives it after the first edge with rst = 0 and R23 as not busy (log 14), and that
the host's next levels come from its list of moves (log 1). (70_reset_and_hazards section 1 (R270, R271); 10_state
R23; assumption log 1, 9, 14) -/
def Obligations.ResetEdgeDropsTheTransaction : Prop :=
  ∀ s : State, s.pins.rst = true → ∃ t, step s = .next t ∧ t.busy = false ∧ t.rspValid = false ∧
    t.reqReady = true ∧ t.taken = s.taken ∧ t.latency = s.latency ∧
    t.pins = s.moves.headD s.pins ∧ t.moves = s.moves.tail

/-- Two states that agree on the pins, the host's later moves, LATENCY and the responses taken so far, and whose coming
edge has rst = 1, are indistinguishable after any number of edges from then on: same pins, busy, rsp_valid, latch
while busy, response while presented, and responses taken. That this covers power removed and restored, as an
arbitrary state before that edge, is the model's reading of R255 (assumption log 15), and so is that the host's
levels come from its list of moves (log 1). (70_reset_and_hazards R270, R272; 60_exceptions R255; assumption log 1,
15) -/
def Obligations.ResetForgetsTheStateBefore : Prop :=
  ∀ (n : Nat) (s t : State), s.pins = t.pins → s.moves = t.moves → s.latency = t.latency → s.taken = t.taken →
    s.pins.rst = true →
    ∃ s' t', run (n + 1) s = .next s' ∧ run (n + 1) t = .next t' ∧ SameView s' t'

/-- If two states differ at most in what the spec calls unspecified and unobservable (the latch while busy = 0, the
response data while rsp_valid = 0), so do their next states. (10_state R33; 93_implementation_defined S5, S6) -/
def Obligations.StepsKeepSameView : Prop :=
  ∀ s t s' t' : State, SameView s t → step s = .next s' → step t = .next t' → SameView s' t'

/-- With rst = 0, req_valid = 1, busy = 0 and no response presented: the step answers a next state with busy = 1 and the
latch equal to the request on the ports at this edge; no response is presented yet, and the responses taken are
unchanged. (10_state R23; 20_memory R46) -/
def Obligations.RequestAcceptedWhenReady : Prop :=
  ∀ s : State, s.pins.rst = false → s.pins.reqValid = true → s.busy = false → s.rspValid = false →
    ∃ t, step s = .next t ∧ t.busy = true ∧ t.latch = s.pins.req ∧ t.rspValid = false ∧ t.taken = s.taken

/-- With rst = 0, req_valid = 0, busy = 0 and no response presented, the next state is idle again and nothing is taken.
(60_exceptions R257) -/
def Obligations.NothingAcceptedWithoutAValidRequest : Prop :=
  ∀ s : State, s.pins.rst = false → s.pins.reqValid = false → s.busy = false → s.rspValid = false →
    ∃ t, step s = .next t ∧ t.busy = false ∧ t.rspValid = false ∧ t.taken = s.taken

/-- While rst = 0, rsp_valid = 1 and rsp_ready = 0, the step changes nothing of the block: rsp_valid stays 1, the
status, the data, busy and the latch are unchanged. (70_reset_and_hazards R274) -/
def Obligations.PresentedResponseIsHeld : Prop :=
  ∀ s : State, s.pins.rst = false → s.rspValid = true → s.pins.rspReady = false →
    ∃ t, step s = .next t ∧ t = { s with pins := t.pins, moves := t.moves }

/-- With rst = 0, rsp_valid = 1 and rsp_ready = 1: the next state has busy = 0 and rsp_valid = 0, and the response on
the ports is appended to the responses taken. (10_state R23) -/
def Obligations.ResponseIsTaken : Prop :=
  ∀ s : State, s.pins.rst = false → s.rspValid = true → s.pins.rspReady = true →
    ∃ t, step s = .next t ∧ t.busy = false ∧ t.rspValid = false ∧
      t.taken = s.taken ++ [{ status := s.rspStatus, data := s.rspData }]

/-- From every state with busy = 1, whatever request is presented: after a step either the block is free, or it is still
busy with the same latched request; if it is still busy no response has been taken. (70_reset_and_hazards R276;
10_state R22) -/
def Obligations.BusyBlockAcceptsNothing : Prop :=
  ∀ s t : State, s.busy = true → step s = .next t →
    t.busy = false ∨ (t.busy = true ∧ t.latch = s.latch ∧ t.taken = s.taken)

/-- For every step: LATENCY is unchanged, and the responses taken are unchanged, or rst = 0, a response was presented,
rsp_ready was 1, and exactly that response is appended. That no response is taken on an edge with rst = 1 is the
model's reading (assumption log 9). (60_exceptions R257; 70_reset_and_hazards R279; assumption log 9) -/
def Obligations.OutcomeGrowsOnlyByATakenResponse : Prop :=
  ∀ s t : State, step s = .next t → t.latency = s.latency ∧
    (t.taken = s.taken ∨
      (s.pins.rst = false ∧ s.rspValid = true ∧ s.pins.rspReady = true ∧
        t.taken = s.taken ++ [{ status := s.rspStatus, data := s.rspData }]))

/-- While no response is presented, the level of rsp_ready at an edge has no effect on what the edge does to the block.
(70_reset_and_hazards R274) -/
def Obligations.PresentationIgnoresRspReady : Prop :=
  ∀ (s : State) (b : Bool), s.rspValid = false →
    ∃ t t', step s = .next t ∧ step { s with pins := { s.pins with rspReady := b } } = .next t' ∧
      t' = { t with pins := t'.pins }

/-- A request in flight whose response is not presented, with rst low at the edges until then: with n = LATENCY minus
the edges already waited (at least 1), after fewer than n edges it is still waiting with no response presented, and
after n edges the response presented is the answer to the latched request. That the response comes after exactly
LATENCY edges, where R23 says LATENCY or more, is the model's reading (assumption log 10), as are its own count of
edges (log 7), a LATENCY of 0 taken as 1 (log 2) and the host's levels coming from its list of moves (log 1).
(70_reset_and_hazards R277, R278; assumption log 1, 2, 7, 10) -/
def Obligations.ResponsePresentedAfterLatency : Prop :=
  ∀ s : State, s.busy = true → s.rspValid = false → resetLow (max 1 (s.latency - s.elapsed)) s →
    (∀ k, k < max 1 (s.latency - s.elapsed) →
      ∃ t, run k s = .next t ∧ t.busy = true ∧ t.rspValid = false ∧ t.latch = s.latch) ∧
    ∃ t, run (max 1 (s.latency - s.elapsed)) s = .next t ∧ t.busy = true ∧ t.rspValid = true ∧ t.latch = s.latch ∧
      { status := t.rspStatus, data := t.rspData } = answer s.latch

/-- From any idle state, with LATENCY at least 1, a host that presents a nonempty list of requests one after the other
and takes each response at once gets exactly the list of their answers, in order, appended to the responses taken,
and the block is idle again. The count of edges per transaction rests on exactly LATENCY edges, the model's reading
(assumption log 10), and the host's levels coming from its list of moves is log 1. (70_reset_and_hazards R279, R276,
R277; 10_state R22; 20_memory R49; assumption log 1, 10) -/
def Obligations.RunAnswersEveryRequestInOrder : Prop :=
  ∀ (s : State) (q : Request) (qs : List Request), s.busy = false → s.rspValid = false → 1 ≤ s.latency →
    s.pins :: s.moves = hostScript s.latency (q :: qs) →
    ∃ t, run ((s.latency + 2) * (qs.length + 1)) s = .next t ∧ t.busy = false ∧ t.rspValid = false ∧
      t.taken = s.taken ++ (q :: qs).map answer

/-- For each of the 18 formats: the word is 0x0001 + 16 x FMT, and for every state FROMP answers OK with R equal to A
modulo 2^W, changing nothing but the response ports. (R131) -/
def Obligations.FrompKeepsTheLowBits : Prop :=
  ∀ (f : Format) (s : State), (encode (.fromp f)).toNat = 0x0001 + 16 * f.code ∧
    ∃ t, exec (.fromp f) s = .next t ∧ OnlyResponse s t ∧ t.rspStatus = 0 ∧
      t.rspData.toNat = s.latch.a.toNat % 2 ^ f.width

/-- For each of the 18 formats: the word is 0x0002 + 16 x FMT, and for every state PACK answers OK with R the sum over i
below the arity of (lane i of A mod 2^B) shifted to bit iB, changing nothing but the response ports. (R134) -/
def Obligations.PackStoresLowBitsOfEachLane : Prop :=
  ∀ (f : Format) (s : State), (encode (.pack f)).toNat = 0x0002 + 16 * f.code ∧
    ∃ t, exec (.pack f) s = .next t ∧ OnlyResponse s t ∧ t.rspStatus = 0 ∧
      t.rspData.toNat =
        ∑ i ∈ Finset.range f.arity, (s.latch.a.toNat / 2 ^ (32 * i) % 2 ^ f.bits) * 2 ^ (i * f.bits)

/-- For each of the 18 formats: the word is 0x0003 + 16 x FMT, and for every state UNPACK answers OK; lane i below the
arity, as a 32-bit two's complement integer, is the field c = A[(i+1)B-1 : iB], minus 2^B when the format is signed
and c is at least 2^(B-1); every other bit of R is zero; nothing changes but the response ports. (R137; R136) -/
def Obligations.UnpackReadsEachComponent : Prop :=
  ∀ (f : Format) (s : State), (encode (.unpack f)).toNat = 0x0003 + 16 * f.code ∧
    ∃ t, exec (.unpack f) s = .next t ∧ OnlyResponse s t ∧ t.rspStatus = 0 ∧
      (∀ i, i < f.arity →
        (t.rspData.extractLsb' (32 * i) 32).toInt =
          let c := s.latch.a.toNat / 2 ^ (i * f.bits) % 2 ^ f.bits
          if f.signed = true ∧ 2 ^ (f.bits - 1) ≤ c then (c : Int) - 2 ^ f.bits else c) ∧
      ∀ k, 32 * f.arity ≤ k → t.rspData.getLsbD k = false

/-- For each of the 18 formats: the word is 0x0007 + 16 x FMT, and for every state CMPEQ answers OK with R = 1 when A
and B_op agree modulo 2^W and R = 0 otherwise, changing nothing but the response ports. (R140) -/
def Obligations.CmpeqComparesTheLowBits : Prop :=
  ∀ (f : Format) (s : State), (encode (.cmpeq f)).toNat = 0x0007 + 16 * f.code ∧
    ∃ t, exec (.cmpeq f) s = .next t ∧ OnlyResponse s t ∧ t.rspStatus = 0 ∧
      t.rspData = if s.latch.a.toNat % 2 ^ f.width = s.latch.b.toNat % 2 ^ f.width then 1 else 0

/-- For every format: PACK of the result of UNPACK of P is P (low W bits); UNPACK of the result of PACK gives in lane i
the component's value, the lane itself when it is representable in the component type and else the representable
value congruent to it modulo 2^B; FROMP of P is P, and FROMP after PACK changes nothing. (41_construct_pack R138) -/
def Obligations.PackAndUnpackAreInverse : Prop :=
  ∀ (f : Format) (p b c b' c' : Bus),
    (answer (command (.pack f) (answer (command (.unpack f) p b c)).data b' c')).data.toNat = p.toNat % 2 ^ f.width ∧
    (∀ i, i < f.arity →
      let x := lane p i
      let y := lane (answer (command (.unpack f) (answer (command (.pack f) p b c)).data b' c')).data i
      y.toNat % 2 ^ f.bits = x.toNat % 2 ^ f.bits ∧
      (f.signed = true → -(2 ^ (f.bits - 1) : Int) ≤ y.toInt ∧ y.toInt < 2 ^ (f.bits - 1) ∧
        (-(2 ^ (f.bits - 1) : Int) ≤ x.toInt → x.toInt < 2 ^ (f.bits - 1) → y = x)) ∧
      (f.signed = false → y.toNat < 2 ^ f.bits ∧ (x.toNat < 2 ^ f.bits → y = x))) ∧
    (answer (command (.fromp f) p b c)).data.toNat = p.toNat % 2 ^ f.width ∧
    answer (command (.fromp f) (answer (command (.pack f) p b c)).data b' c') = answer (command (.pack f) p b c)

/-- For each of the 18 formats: the word is 0x0004 + 16 x FMT, and for every state ENC answers OK; field i below the
arity is EncLane of lane i of A, the lane function of the format's family; every other bit of R is zero; nothing
changes but the response ports. (R160; R161) -/
def Obligations.EncQuantizesEachLane : Prop :=
  ∀ (f : Format) (s : State), (encode (.enc f)).toNat = 0x0004 + 16 * f.code ∧
    ∃ t, exec (.enc f) s = .next t ∧
      AnswersFields f.bits f.arity (fun i => encLane f (s.latch.a.extractLsb' (32 * i) 32)) s t

/-- For each of the 18 formats and every count: the word of a 3-bit count is 0x0005 + 16 x FMT + 512 x LEN; when LEN < A
the next state presents status 01 with R = 0, whatever the lanes hold, and nothing else changes; when LEN >= A ENCS
is ENC of the same format on the same state and answers OK with its fields. (R190) -/
def Obligations.EncsChecksTheLength : Prop :=
  ∀ (f : Format) (len : Nat) (s : State),
    (len < 8 → (encode (.encs len f)).toNat = 0x0005 + 16 * f.code + 512 * len) ∧
    (len < f.arity → exec (.encs len f) s = .next { s with rspValid := true, rspStatus := 1, rspData := 0 }) ∧
    (f.arity ≤ len → exec (.encs len f) s = exec (.enc f) s ∧
      ∃ t, exec (.encs len f) s = .next t ∧
        AnswersFields f.bits f.arity (fun i => encLane f (s.latch.a.extractLsb' (32 * i) 32)) s t)

/-- For each of the 18 formats: the word is 0x0006 + 16 x FMT, and for every state DEC answers OK; lane i below the
arity is DecLane of field i of A, the lane function of the format's family; every other lane is zero; nothing
changes but the response ports. (43_decode section 1 (R200, R201); 43_decode R226) -/
def Obligations.DecUnscalesEachField : Prop :=
  ∀ (f : Format) (s : State), (encode (.dec f)).toNat = 0x0006 + 16 * f.code ∧
    ∃ t, exec (.dec f) s = .next t ∧
      AnswersFields 32 f.arity (fun i => decLane f (s.latch.a.extractLsb' (f.bits * i) f.bits)) s t

/-- For 2 and 4 lanes: the words are 0x0009, 0x000A, 0x000B with 16 added for 4 lanes, and for every state each answers
OK with lane i the lane function (Round1, Trunc1, Sat1) of lane i of A, every lane from n up zero, and nothing
changed but the response ports. (40_helper_kernel R101, R107, R109, R111) -/
def Obligations.UnaryHelpersActLaneByLane : Prop :=
  ∀ (n : Lanes) (s : State),
    ((encode (.vround n)).toNat = 0x0009 + 16 * n.code ∧ ∃ t, exec (.vround n) s = .next t ∧
      AnswersFields 32 n.count (fun i => round1 (s.latch.a.extractLsb' (32 * i) 32)) s t) ∧
    ((encode (.vtrunc n)).toNat = 0x000A + 16 * n.code ∧ ∃ t, exec (.vtrunc n) s = .next t ∧
      AnswersFields 32 n.count (fun i => trunc1 (s.latch.a.extractLsb' (32 * i) 32)) s t) ∧
    ((encode (.vsat n)).toNat = 0x000B + 16 * n.code ∧ ∃ t, exec (.vsat n) s = .next t ∧
      AnswersFields 32 n.count (fun i => sat1 (s.latch.a.extractLsb' (32 * i) 32)) s t)

/-- For 2 and 4 lanes: the words are 0x0008 and 0x000C with 16 added for 4 lanes, and for every state each answers OK
with lane i the lane function (Clamp1, Madd1) of lanes i of A, B_op and C, every lane from n up zero, and nothing
changed but the response ports. Every result of Clamp1 is bit-identical to one of its operands. (40_helper_kernel
R101, R105, R113) -/
def Obligations.TernaryHelpersActLaneByLane : Prop :=
  (∀ (n : Lanes) (s : State),
    ((encode (.vclamp n)).toNat = 0x0008 + 16 * n.code ∧ ∃ t, exec (.vclamp n) s = .next t ∧
      AnswersFields 32 n.count (fun i => clamp1 (s.latch.a.extractLsb' (32 * i) 32)
        (s.latch.b.extractLsb' (32 * i) 32) (s.latch.c.extractLsb' (32 * i) 32)) s t) ∧
    ((encode (.vmadd n)).toNat = 0x000C + 16 * n.code ∧ ∃ t, exec (.vmadd n) s = .next t ∧
      AnswersFields 32 n.count (fun i => madd1 (s.latch.a.extractLsb' (32 * i) 32)
        (s.latch.b.extractLsb' (32 * i) 32) (s.latch.c.extractLsb' (32 * i) 32)) s t)) ∧
  ∀ v lo hi : Lane, clamp1 v lo hi = v ∨ clamp1 v lo hi = lo ∨ clamp1 v lo hi = hi

/-- With bounds in order (lo below hi, or the same bits): below lo or NaN gives lo; above hi gives hi; anything from lo
to hi, the bounds included, gives the value bit for bit, unless the value and one of the bounds are zeros (this for
any bounds that are not NaNs). A zero value between a zero lo and a positive hi gives lo, between a negative lo and
a zero hi gives hi, and between two zeros gives hi, whatever the signs of the zeros. Bounds in reverse order, a NaN
lo with an ordered hi, and a NaN hi all give hi. (40_helper_kernel R103, R104; assumption log 16) -/
def Obligations.ClampSelectsAsTheTableSays : Prop :=
  ∀ v lo hi : Lane,
    ((flt lo hi = true ∨ (lo = hi ∧ isNaN lo = false)) →
      (flt v lo = true ∨ isNaN v = true → clamp1 v lo hi = lo) ∧
      (fgt v hi = true → clamp1 v lo hi = hi)) ∧
    (isNaN v = false → isNaN lo = false → isNaN hi = false → flt v lo = false → fgt v hi = false →
      ¬(isZero v = true ∧ (isZero lo = true ∨ isZero hi = true)) → clamp1 v lo hi = v) ∧
    (isZero v = true →
      (isZero lo = true → fgt hi 0 = true → clamp1 v lo hi = lo) ∧
      (flt lo 0 = true → isZero hi = true → clamp1 v lo hi = hi) ∧
      (isZero lo = true → isZero hi = true → clamp1 v lo hi = hi)) ∧
    (fgt lo hi = true → clamp1 v lo hi = hi) ∧
    (isNaN lo = true → isNaN hi = false → clamp1 v lo hi = hi) ∧
    (isNaN hi = true → clamp1 v lo hi = hi)

/-- For finite lo and hi with value lo at most value hi and every v, NaN and infinities included, Clamp1 is finite and
its value lies in [lo, hi]. For finite x whose value lies between integers lo and hi, Round1 and Trunc1 are finite
and their values are integers in [lo, hi]. Sat1 of every v is finite with value in [0, 1]. (40_helper_kernel R114) -/
def Obligations.KernelStaysInRange : Prop :=
  (∀ v lo hi : Lane, isFinite lo = true → isFinite hi = true → value lo ≤ value hi →
    isFinite (clamp1 v lo hi) = true ∧ value lo ≤ value (clamp1 v lo hi) ∧ value (clamp1 v lo hi) ≤ value hi) ∧
  (∀ (x : Lane) (lo hi : Int), isFinite x = true → lo * one ≤ value x → value x ≤ hi * one →
    (isFinite (round1 x) = true ∧ ∃ n : Int, value (round1 x) = n * one ∧ lo ≤ n ∧ n ≤ hi) ∧
    (isFinite (trunc1 x) = true ∧ ∃ n : Int, value (trunc1 x) = n * one ∧ lo ≤ n ∧ n ≤ hi)) ∧
  ∀ v : Lane, isFinite (sat1 v) = true ∧ 0 ≤ value (sat1 v) ∧ value (sat1 v) ≤ one

/-- For every lane: a NaN gives 0x7FC00000; an infinity or a zero gives itself; a finite nonzero value gives a finite
float with the operand's sign bit whose value is the integer nearest to it, the even one on a tie; and from
magnitude 2^23 on it gives the operand itself. (R106) -/
def Obligations.RoundGivesTheNearestEvenInteger : Prop :=
  ∀ x : Lane,
    (isNaN x = true → round1 x = 0x7FC00000) ∧
    (isInf x = true ∨ isZero x = true → round1 x = x) ∧
    (isFinite x = true → isFinite (round1 x) = true ∧ signBit (round1 x) = signBit x ∧
      (∃ n : Int, value (round1 x) = n * one ∧ NearestEvenInt n (value x)) ∧
      (2 ^ 23 * one ≤ magnitude x → round1 x = x))

/-- For every lane: a NaN gives 0x7FC00000; an infinity or a zero gives itself; a finite value gives a finite float with
the operand's sign bit whose magnitude is the whole part of the operand's magnitude, exactly. (R108) -/
def Obligations.TruncateDropsTheFraction : Prop :=
  ∀ x : Lane,
    (isNaN x = true → trunc1 x = 0x7FC00000) ∧
    (isInf x = true ∨ isZero x = true → trunc1 x = x) ∧
    (isFinite x = true → isFinite (trunc1 x) = true ∧ signBit (trunc1 x) = signBit x ∧
      magnitude (trunc1 x) = magnitude x / one * one)

/-- For every lane: Sat1 is Clamp1 with bounds +0.0 and 1.0; a value below zero (-infinity included), either zero and a
NaN give 0x00000000; a value above 1 (+infinity included) gives 0x3F800000; a value above zero and at most 1 is
returned bit for bit. (40_helper_kernel R110; 40_helper_kernel R104) -/
def Obligations.SaturateClampsToUnit : Prop :=
  ∀ x : Lane,
    sat1 x = clamp1 x 0x00000000 0x3F800000 ∧
    (flt x 0 = true ∨ isZero x = true ∨ isNaN x = true → sat1 x = 0x00000000) ∧
    (fgt x 0x3F800000 = true → sat1 x = 0x3F800000) ∧
    (fgt x 0 = true → fgt x 0x3F800000 = false → sat1 x = x)

/-- Madd1 is fadd32 of the fmul32 product and the bias; any NaN operand, zero times infinity, and infinities of opposite
sign give 0x7FC00000; an infinite product, by overflow or not, and a bias that is neither a NaN nor an infinity of
the other sign give the infinity of the product. On (1 + 2^-23)^2 - 1 it gives 2^-22, which a fused form would not.
(R112) -/
def Obligations.MultiplyAddRoundsTwice : Prop :=
  (∀ v m b : Lane,
    madd1 v m b = fadd32 (fmul32 v m) b ∧
    (isNaN v = true ∨ isNaN m = true ∨ isNaN b = true → madd1 v m b = 0x7FC00000) ∧
    ((isZero v = true ∧ isInf m = true) ∨ (isInf v = true ∧ isZero m = true) → madd1 v m b = 0x7FC00000) ∧
    (isInf (fmul32 v m) = true → isInf b = true → signBit b ≠ signBit (fmul32 v m) → madd1 v m b = 0x7FC00000) ∧
    (isInf (fmul32 v m) = true → isNaN b = false → (isInf b = true → signBit b = signBit (fmul32 v m)) →
      madd1 v m b = fmul32 v m)) ∧
  madd1 0x3F800001 0x3F800001 0xBF800000 = 0x34800000

/-- For every quotient of naturals num/den: the binary32 rounding (units of 2^-149) and the binary16 rounding (units of
2^-24) give infinity exactly when the magnitude is at least 2^128 - 2^103, or 65520; otherwise a finite pattern than
which no finite pattern of the format is nearer, with an even fraction whenever another is as near. Subnormals are
not flushed. (R13) -/
def Obligations.RoundingIsCorrect : Prop :=
  ∀ num den : Nat, 0 < den →
    RoundsTo32 num den (roundMagnitude 23 0x7F800000 num den) ∧ RoundsTo16 num den (roundMagnitude 10 0x7C00 num den)

/-- A NaN operand, or infinity times zero, gives 0x7FC00000; infinity times a nonzero non-NaN gives the infinity whose
sign is the exclusive or; two finite operands give that sign and the exact product rounded to binary32. (00_scope
R14) -/
def Obligations.FmulRoundsTheExactProduct : Prop :=
  ∀ x y : Lane,
    (isNaN x = true ∨ isNaN y = true → fmul32 x y = 0x7FC00000) ∧
    ((isInf x = true ∧ isZero y = true) ∨ (isZero x = true ∧ isInf y = true) → fmul32 x y = 0x7FC00000) ∧
    ((isInf x = true ∧ isNaN y = false ∧ isZero y = false) ∨ (isInf y = true ∧ isNaN x = false ∧ isZero x = false) →
      fmul32 x y = infinity (signBit x ^^ signBit y)) ∧
    (isFinite x = true → isFinite y = true →
      signBit (fmul32 x y) = (signBit x ^^ signBit y) ∧
      RoundsTo32 (magnitude x * magnitude y) (2 ^ 149) ((fmul32 x y).toNat % 2 ^ 31))

/-- A NaN operand, or two different infinities, gives 0x7FC00000; equal infinities, or one infinity, give that infinity;
two finite operands whose sum is zero give -0 when both are -0 and +0 otherwise; else the sign and the magnitude of
the exact sum, rounded to binary32. (00_scope R14) -/
def Obligations.FaddRoundsTheExactSum : Prop :=
  ∀ x y : Lane,
    (isNaN x = true ∨ isNaN y = true → fadd32 x y = 0x7FC00000) ∧
    (isInf x = true → isInf y = true → fadd32 x y = if x = y then x else 0x7FC00000) ∧
    (isInf x = true → isFinite y = true → fadd32 x y = x) ∧
    (isFinite x = true → isInf y = true → fadd32 x y = y) ∧
    (isFinite x = true → isFinite y = true → value x + value y = 0 →
      fadd32 x y = if x = 0x80000000 ∧ y = 0x80000000 then 0x80000000 else 0x00000000) ∧
    (isFinite x = true → isFinite y = true → value x + value y ≠ 0 →
      signBit (fadd32 x y) = decide (value x + value y < 0) ∧
      RoundsTo32 (value x + value y).natAbs 1 ((fadd32 x y).toNat % 2 ^ 31))

/-- A NaN operand, infinity over infinity and zero over zero give 0x7FC00000; infinity over a finite value, and a finite
nonzero value over zero, give the infinity whose sign is the exclusive or; a finite value over infinity gives the
zero of that sign; a finite value over a finite nonzero one gives that sign and the exact quotient rounded to
binary32. (00_scope R14) -/
def Obligations.FdivRoundsTheExactQuotient : Prop :=
  ∀ x y : Lane,
    (isNaN x = true ∨ isNaN y = true → fdiv32 x y = 0x7FC00000) ∧
    ((isInf x = true ∧ isInf y = true) ∨ (isZero x = true ∧ isZero y = true) → fdiv32 x y = 0x7FC00000) ∧
    (isInf x = true → isFinite y = true → fdiv32 x y = infinity (signBit x ^^ signBit y)) ∧
    (isFinite x = true → isInf y = true → fdiv32 x y = zero (signBit x ^^ signBit y)) ∧
    (isFinite x = true → isZero x = false → isZero y = true → fdiv32 x y = infinity (signBit x ^^ signBit y)) ∧
    (isFinite x = true → isFinite y = true → isZero y = false →
      signBit (fdiv32 x y) = (signBit x ^^ signBit y) ∧
      RoundsTo32 (magnitude x * 2 ^ 149) (magnitude y) ((fdiv32 x y).toNat % 2 ^ 31))

/-- For every integer n with |n| at most 65535: i2f32 n is finite with value exactly n, f2i of it is n, and i2f32 0 is
+0. (00_scope R14; 43_decode R202) -/
def Obligations.IntegersConvertExactly : Prop :=
  (∀ n : Int, |n| ≤ 65535 → isFinite (i2f32 n) = true ∧ value (i2f32 n) = n * one ∧ f2i (i2f32 n) = n) ∧
  i2f32 0 = 0x00000000

/-- For B = 8 and 16 with m = 2^(B-1) - 1: NaN and -infinity give -m, +infinity gives m, and a finite lane gives the
integer nearest to its value clamped to [-m, m], the even one on a tie, stored in two's complement; the field is
never -2^(B-1). (R163) -/
def Obligations.EncRawSignedRoundsTheClampedValue : Prop :=
  ∀ w : Nat, w = 8 ∨ w = 16 → ∀ v : Lane,
    let m : Int := 2 ^ (w - 1) - 1
    let n := (encRawSigned w v).toInt
    (isNaN v = true ∨ v = 0xFF800000 → n = -m) ∧ (v = 0x7F800000 → n = m) ∧
    (isFinite v = true → NearestEvenInt n (max (-m * one) (min (m * one) (value v)))) ∧ -m ≤ n ∧ n ≤ m

/-- For B = 8 and 16 with m = 2^B - 1: NaN and -infinity give 0, +infinity gives m, and a finite lane gives the integer
nearest to its value clamped to [0, m], the even one on a tie. (R164) -/
def Obligations.EncRawUnsignedRoundsTheClampedValue : Prop :=
  ∀ w : Nat, w = 8 ∨ w = 16 → ∀ v : Lane,
    let m : Int := 2 ^ w - 1
    let n : Int := (encRawUnsigned w v).toNat
    (isNaN v = true ∨ v = 0xFF800000 → n = 0) ∧ (v = 0x7F800000 → n = m) ∧
    (isFinite v = true → NearestEvenInt n (max 0 (min (m * one) (value v))))

/-- For B = 8 and 16 with m = 2^(B-1) - 1, and every lane, NaN and infinities included: the product of Clamp1(v, -1.0,
1.0) and m is finite, and the field, in two's complement, is the integer nearest to that rounded product, the even
one on a tie, and lies in [-m, m]. (R165) -/
def Obligations.EncSNormRoundsTheScaledLane : Prop :=
  ∀ w : Nat, w = 8 ∨ w = 16 → ∀ v : Lane,
    let m : Int := 2 ^ (w - 1) - 1
    let p := fmul32 (clamp1 v 0xBF800000 0x3F800000) (i2f32 m)
    let n := (encSNorm w v).toInt
    isFinite p = true ∧ |value p| ≤ m * one ∧ NearestEvenInt n (value p) ∧ -m ≤ n ∧ n ≤ m

/-- For B = 8 and 16 with m = 2^B - 1, and every lane: t = Madd1(Sat1(v), m, 0.5) is finite with value in [0, m + 0.5],
and the field is the whole part of t, in [0, m]. The corner 0x3B008080 with B = 8, whose rounded sum reaches 1.0,
gives 1. (42_encode R166) -/
def Obligations.EncUNormTruncatesTheBiasedProduct : Prop :=
  (∀ w : Nat, w = 8 ∨ w = 16 → ∀ v : Lane,
    let m : Int := 2 ^ w - 1
    let t := madd1 (sat1 v) (i2f32 m) 0x3F000000
    isFinite t = true ∧ 0 ≤ value t ∧ 2 * value t ≤ (2 * m + 1) * one ∧
      ((encUNorm w v).toNat : Int) = value t / one ∧ ((encUNorm w v).toNat : Int) ≤ m) ∧
  encUNorm 8 0x3B008080 = 1

/-- For every lane: a NaN gives sign, 0x7E00 and payload bits x[21:13]; an infinity gives the infinity pattern of its
sign; a finite lane gives its sign bit and its magnitude rounded to binary16 (nearest, ties to even fraction,
infinity from 65520 on, subnormals kept). (R167) -/
def Obligations.EncHalfNarrowsCorrectly : Prop :=
  ∀ x : Lane,
    let s := if signBit x = true then 2 ^ 15 else 0
    (isNaN x = true → (encHalf x).toNat = s + 0x7E00 + x.toNat / 2 ^ 13 % 2 ^ 9) ∧
    (isInf x = true → (encHalf x).toNat = s + 0x7C00) ∧
    (isZero x = true → (encHalf x).toNat = s) ∧
    (isFinite x = true → (encHalf x).toNat / 2 ^ 15 = s / 2 ^ 15 ∧
      RoundsTo16 (magnitude x) (2 ^ 125) ((encHalf x).toNat % 2 ^ 15))

/-- For every format: +infinity gives the largest field of the encode range and -infinity the smallest, or the infinity
patterns in the half formats; every NaN gives the lower clamp bound in the integer formats; -0.0 gives 0 in the
integer formats and 0x8000 in the half formats; a binary32 subnormal gives 0, or a zero of its sign in the half
formats. (42_encode R189 (its table, less the NaN entry of the half column)) -/
def Obligations.SpecialLanesEncode : Prop :=
  ∀ f : Format,
    let low := if f.signed = true then 2 ^ (f.bits - 1) + 1 else 0
    let high := if f.signed = true then 2 ^ (f.bits - 1) - 1 else 2 ^ f.bits - 1
    (f.family ≠ .half →
      (encLane f 0x7F800000).toNat = high ∧ (encLane f 0xFF800000).toNat = low ∧
      (encLane f 0x80000000).toNat = 0 ∧ (∀ v, isNaN v = true → (encLane f v).toNat = low) ∧
      (∀ v, expField v = 0 → (encLane f v).toNat = 0)) ∧
    (f.family = .half →
      (encLane f 0x7F800000).toNat = 0x7C00 ∧ (encLane f 0xFF800000).toNat = 0xFC00 ∧
      (encLane f 0x80000000).toNat = 0x8000 ∧
      (∀ v, expField v = 0 → (encLane f v).toNat = if signBit v = true then 0x8000 else 0))

/-- For every integer format with upper boundary hi (m for the raw families, 1.0 for the normalized ones) and lower
boundary lo (-m, -1.0, or +0.0): every lane above hi, +infinity included, encodes as hi does, and every lane below
lo, -infinity included, as lo does. (42_encode section 4 (R187); 00_scope R16) -/
def Obligations.OutOfRangeLanesEncodeAsTheBoundary : Prop :=
  ∀ (f : Format) (v : Lane), f.family ≠ .half →
    let m := if f.signed = true then signedScale f.bits else unsignedScale f.bits
    let hi := if f.family = .rawSigned ∨ f.family = .rawUnsigned then i2f32 m else 0x3F800000
    let lo := if f.signed = false then 0x00000000 else if f.family = .rawSigned then i2f32 (-m) else 0xBF800000
    (fgt v hi = true → encLane f v = encLane f hi) ∧ (flt v lo = true → encLane f v = encLane f lo) ∧
    (encLane f hi = BitVec.ofInt f.bits m)

/-- For B = 8 and 16 and every field c: DecRawSigned is the finite float whose value is c in two's complement, the most
negative value included, DecRawUnsigned the one whose value is c; neither is ever -0.0. (R203; R204) -/
def Obligations.DecRawIsExact : Prop :=
  ∀ w : Nat, w = 8 ∨ w = 16 → ∀ c : BitVec w,
    isFinite (decRawSigned w c) = true ∧ value (decRawSigned w c) = c.toInt * one ∧ decRawSigned w c ≠ 0x80000000 ∧
    isFinite (decRawUnsigned w c) = true ∧ value (decRawUnsigned w c) = c.toNat * one ∧
    decRawUnsigned w c ≠ 0x80000000

/-- For B = 8 and 16: DecSNorm of the field -2^(B-1) is 0xBF800000; of any other field n it has the sign of n and the
magnitude |n| / (2^(B-1)-1) rounded to binary32, so 1.0 for m and -1.0 for -m. DecUNorm of a field c is nonnegative
and c / (2^B-1) rounded to binary32, so 1.0 for 2^B-1. (R205; R206) -/
def Obligations.DecNormIsTheNearestQuotient : Prop :=
  ∀ w : Nat, w = 8 ∨ w = 16 → ∀ c : BitVec w,
    (c.toInt = -2 ^ (w - 1) → decSNorm w c = 0xBF800000) ∧
    (c.toInt ≠ -2 ^ (w - 1) → signBit (decSNorm w c) = decide (c.toInt < 0) ∧
      RoundsTo32 (c.toInt.natAbs * 2 ^ 149) (2 ^ (w - 1) - 1) ((decSNorm w c).toNat % 2 ^ 31)) ∧
    (c.toInt = 2 ^ (w - 1) - 1 → decSNorm w c = 0x3F800000) ∧
    (c.toInt = -(2 ^ (w - 1) - 1) → decSNorm w c = 0xBF800000) ∧
    signBit (decUNorm w c) = false ∧
    RoundsTo32 (c.toNat * 2 ^ 149) (2 ^ w - 1) ((decUNorm w c).toNat % 2 ^ 31) ∧
    (c.toNat = 2 ^ w - 1 → decUNorm w c = 0x3F800000)

/-- For every half pattern: exponent 31 gives sign, exponent 255 and the fraction shifted up 13 bits; every other
pattern gives a finite float with the same sign bit and exactly the same value. (R207) -/
def Obligations.DecHalfIsExact : Prop :=
  ∀ h : BitVec 16,
    (h.toNat / 2 ^ 10 % 2 ^ 5 = 31 →
      (decHalf h).toNat = h.toNat / 2 ^ 15 * 2 ^ 31 + 0x7F800000 + h.toNat % 2 ^ 10 * 2 ^ 13) ∧
    (h.toNat / 2 ^ 10 % 2 ^ 5 ≠ 31 →
      isFinite (decHalf h) = true ∧ signBit (decHalf h) = h.getLsbD 15 ∧ value (decHalf h) = halfValue h * 2 ^ 125)

/-- For every integer format and field: the decoded lane is finite and not -0.0, and its value lies in [0, 2^B-1] (raw
unsigned), [-2^(B-1), 2^(B-1)-1] (raw signed), [0, 1] (unsigned normalized) or [-1, 1] (signed normalized).
(43_decode R229) -/
def Obligations.DecodedValuesStayInRange : Prop :=
  ∀ (f : Format) (c : BitVec f.bits), f.family ≠ .half →
    isFinite (decLane f c) = true ∧ decLane f c ≠ 0x80000000 ∧
    (f.family = .rawUnsigned → 0 ≤ value (decLane f c) ∧ value (decLane f c) ≤ (2 ^ f.bits - 1) * one) ∧
    (f.family = .rawSigned →
      -(2 ^ (f.bits - 1)) * one ≤ value (decLane f c) ∧ value (decLane f c) ≤ (2 ^ (f.bits - 1) - 1) * one) ∧
    (f.family = .unsignedNorm → 0 ≤ value (decLane f c) ∧ value (decLane f c) ≤ one) ∧
    (f.family = .signedNorm → -(one : Int) ≤ value (decLane f c) ∧ value (decLane f c) ≤ one)

/-- For every format and field c: EncLane(DecLane(c)) is c, except that the field -2^(B-1) of a signed format gives
-(2^(B-1)-1), and a signalling half NaN gives c with the quiet bit set. (42_encode section 6 (R191); 95_test_vectors
section 4.1) -/
def Obligations.DecodeThenEncodeReturnsTheField : Prop :=
  ∀ (f : Format) (c : BitVec f.bits),
    (f.signed = true → c.toNat = 2 ^ (f.bits - 1) → (encLane f (decLane f c)).toNat = 2 ^ (f.bits - 1) + 1) ∧
    (f.family = .half → signallingHalf c.toNat → (encLane f (decLane f c)).toNat = c.toNat + 0x0200) ∧
    (¬(f.signed = true ∧ c.toNat = 2 ^ (f.bits - 1)) → ¬(f.family = .half ∧ signallingHalf c.toNat) →
      encLane f (decLane f c) = c)

/-- For every raw format and operand: if lane i holds an integer in the component type's range, then after PACK and DEC
lane i is the finite float whose value is that integer. (43_decode section 4 (R228)) -/
def Obligations.RawComponentsRoundTrip : Prop :=
  ∀ (f : Format) (a b c b' c' : Bus) (i : Nat), i < f.arity →
    let x := lane a i
    let y := lane (answer (command (.dec f) (answer (command (.pack f) a b c)).data b' c')).data i
    (f.family = .rawUnsigned → x.toNat < 2 ^ f.bits → isFinite y = true ∧ value y = x.toNat * one) ∧
    (f.family = .rawSigned → -(2 ^ (f.bits - 1) : Int) ≤ x.toInt → x.toInt < 2 ^ (f.bits - 1) →
      isFinite y = true ∧ value y = x.toInt * one)

/-- For every normalized format and finite float v in its valid range ([-1, 1] signed, [0, 1] unsigned):
|DecLane(EncLane(v)) - v| is at most 1/(2^(B-1)-1), exactly, with every binary32 rounding on the way counted.
(42_encode section 6 (R191)) -/
def Obligations.NormalizedRoundTripWithinOneStep : Prop :=
  ∀ (f : Format) (v : Lane), (f.family = .signedNorm ∨ f.family = .unsignedNorm) → isFinite v = true →
    value v ≤ one → (if f.signed = true then -(one : Int) ≤ value v else 0 ≤ value v) →
    |value (decLane f (encLane f v)) - value v| * (2 ^ (f.bits - 1) - 1) ≤ one

/-- For every format and packed integer: the text has W/4 characters, and the k-th character is the digit, in 0-9A-F, of
bits 4(W/4-1-k) and the three above. (30_encoding R72) -/
def Obligations.HexRenderingReadsBack : Prop :=
  ∀ (f : Format) (p : BitVec f.width), (renderHex f p).toList.length = f.width / 4 ∧
    ∀ k, k < f.width / 4 →
      (renderHex f p).toList[k]? =
        ['0', '1', '2', '3', '4', '5', '6', '7', '8', '9', 'A', 'B', 'C', 'D', 'E', 'F'][
          p.toNat / 16 ^ (f.width / 4 - 1 - k) % 16]?
end

