-- ==== Sys2Proof/Laws/Ops.lean ====
section
/-!
SUPPORT. One lemma for each shared operation on operands, results and numbers that says once what it gives.
-/

namespace Sys2Proof.Machine

@[simp] theorem code_ok : Status.ok.code = 0 := rfl
@[simp] theorem code_invalidArgument : Status.invalidArgument.code = 1 := rfl
@[simp] theorem code_illegalCommand : Status.illegalCommand.code = 2 := rfl
@[simp] theorem status_invalidArgument : Cause.invalidArgument.status = .invalidArgument := rfl
@[simp] theorem status_illegalCommand : Cause.illegalCommand.status = .illegalCommand := rfl

/-- The code `11` is no status's (30_encoding R70). -/
theorem code_ne_three (st : Status) : st.code ≠ 3 := by cases st <;> decide

@[simp] theorem verdict_true : verdict true = 1 := rfl
@[simp] theorem verdict_false : verdict false = 0 := rfl

/-- A bit of a lane is the bit of the bus 32 places further up per lane. -/
theorem lane_getLsbD (x : Bus) (i k : Nat) : (lane x i).getLsbD k = (decide (k < 32) && x.getLsbD (32 * i + k)) := by
  simp [lane, BitVec.getLsbD_extractLsb']

/-- A bit of a field is the bit of the packed integer `w` places further up per field. -/
theorem field_getLsbD (w i : Nat) (p : Bus) (k : Nat) :
    (field w i p).getLsbD k = (decide (k < w) && p.getLsbD (w * i + k)) := by
  simp [field, BitVec.getLsbD_extractLsb']

/-- The packed integer on a bus is the bus modulo `2^w`. -/
theorem packed_toNat (w : Nat) (x : Bus) : (packed w x).toNat = x.toNat % 2 ^ w := by
  simp [packed, BitVec.extractLsb'_toNat]

/-- A packed result is the operand modulo `2^w`. -/
theorem packedResult_toNat (w : Nat) (hw : w ≤ 128) (x : Bus) : (packedResult w x).toNat = x.toNat % 2 ^ w := by
  have h : x.toNat % 2 ^ w < 2 ^ 128 :=
    lt_of_lt_of_le (Nat.mod_lt _ (by positivity)) (Nat.pow_le_pow_right (by norm_num) hw)
  rw [packedResult, BitVec.toNat_setWidth, packed_toNat, Nat.mod_eq_of_lt h]

/-- Two packed integers are equal exactly when the buses agree modulo `2^w`. -/
theorem packed_eq_iff (w : Nat) (x y : Bus) : packed w x = packed w y ↔ x.toNat % 2 ^ w = y.toNat % 2 ^ w := by
  rw [← packed_toNat, ← packed_toNat]
  exact BitVec.toNat_inj.symm

/-- Bit `k` of a result made of fields is bit `k % w` of field `k / w`, and zero above the last field. -/
theorem packFields_getLsbD (w : Nat) (hw : 0 < w) (f : Nat → BitVec w) (n k : Nat) (h : w * n ≤ 128) :
    (packFields w f n).getLsbD k = (decide (k < w * n) && (f (k / w)).getLsbD (k % w)) := by
  induction n with
  | zero => simp [packFields]
  | succ n ih =>
    have hn : w * n ≤ 128 := le_trans (Nat.mul_le_mul_left w (Nat.le_succ n)) h
    have hs : w * (n + 1) = w * n + w := Nat.mul_succ w n
    simp only [packFields, BitVec.getLsbD_or, ih hn, BitVec.getLsbD_shiftLeft, BitVec.getLsbD_setWidth]
    by_cases h1 : k < w * n
    · have : k < w * (n + 1) := by omega
      simp [h1, this]
    · have hk : w * n ≤ k := Nat.le_of_not_lt h1
      by_cases h2 : k < w * (n + 1)
      · have hd : k / w = n := by
          apply Nat.div_eq_of_lt_le
          · rw [Nat.mul_comm]; exact hk
          · rw [Nat.mul_comm]; exact h2
        have hm : k % w = k - w * n := by
          have := Nat.mod_add_div k w
          rw [hd] at this
          omega
        have hb : k - w * n < 128 := by omega
        have hk' : k < 128 := by omega
        simp [h1, h2, hd, hm, hb, hk']
      · have hb : (f n).getLsbD (k - w * n) = false := by
          apply BitVec.getLsbD_of_ge
          omega
        simp [h1, h2, hb]

/-- Field `i` of a result made of fields is what was stored there. -/
theorem packFields_extract (w : Nat) (hw : 0 < w) (f : Nat → BitVec w) (n i : Nat) (h : w * n ≤ 128) (hi : i < n) :
    (packFields w f n).extractLsb' (w * i) w = f i := by
  apply BitVec.eq_of_getLsbD_eq
  intro k hk
  have hlt : w * i + k < w * n := by
    calc w * i + k < w * i + w := by omega
      _ = w * (i + 1) := (Nat.mul_succ w i).symm
      _ ≤ w * n := Nat.mul_le_mul_left w hi
  have hd : (w * i + k) / w = i := by
    rw [Nat.mul_add_div hw, Nat.div_eq_of_lt hk, Nat.add_zero]
  have hm : (w * i + k) % w = k := by
    rw [Nat.mul_add_mod, Nat.mod_eq_of_lt hk]
  simp [packFields_getLsbD w hw f n _ h, hk, hlt, hd, hm]

/-- Above its last field a result is zero (10_state R24). -/
theorem packFields_high (w : Nat) (hw : 0 < w) (f : Nat → BitVec w) (n k : Nat) (h : w * n ≤ 128) (hk : w * n ≤ k) :
    (packFields w f n).getLsbD k = false := by
  rw [packFields_getLsbD w hw f n k h]
  simp [Nat.not_lt.mpr hk]

/-- A stored component is the lane modulo `2^w` (41_construct_pack R133). -/
theorem storeInt_toNat (w : Nat) (x : Lane) : (storeInt w x).toNat = x.toNat % 2 ^ w := BitVec.toNat_setWidth w x

/-- A component read as unsigned keeps its value (41_construct_pack R136). -/
theorem readUnsigned_toNat (w : Nat) (hw : w ≤ 32) (c : BitVec w) : (readUnsigned w c).toNat = c.toNat := by
  rw [readUnsigned, BitVec.toNat_setWidth]
  exact Nat.mod_eq_of_lt (lt_of_lt_of_le c.isLt (Nat.pow_le_pow_right (by norm_num) hw))

/-- A component read as signed keeps its two's complement value (41_construct_pack R136). -/
theorem readSigned_toInt (w : Nat) (hw : w ≤ 32) (c : BitVec w) : (readSigned w c).toInt = c.toInt :=
  BitVec.toInt_signExtend_of_le hw

/-- `nearestEven` is one of the two neighbours of the quotient, at most half a step away, and even on a tie. -/
theorem nearestEven_spec (num den : Nat) (hd : 0 < den) :
    2 * num ≤ (2 * nearestEven num den + 1) * den ∧ (2 * nearestEven num den) * den ≤ 2 * num + den ∧
    ((2 * num = (2 * nearestEven num den + 1) * den ∨ 2 * num + den = (2 * nearestEven num den) * den) →
      nearestEven num den % 2 = 0) := by
  have hq : den * (num / den) + num % den = num := Nat.div_add_mod num den
  have hr : num % den < den := Nat.mod_lt num hd
  generalize hqd : num / den = q at hq
  generalize hrd : num % den = r at hq hr
  have e1 : (2 * (q + 1) + 1) * den = 2 * (den * q) + 3 * den := by ring
  have e2 : 2 * (q + 1) * den = 2 * (den * q) + 2 * den := by ring
  have e3 : (2 * q + 1) * den = 2 * (den * q) + den := by ring
  have e4 : 2 * q * den = 2 * (den * q) := by ring
  have hval : nearestEven num den = if den < 2 * r then q + 1 else if 2 * r = den then q + q % 2 else q := by
    simp [nearestEven, hqd, hrd]
  rw [hval]
  split
  · rw [e1, e2]; refine ⟨by omega, by omega, ?_⟩
    rintro (h | h) <;> omega
  · split
    · rcases Nat.mod_two_eq_zero_or_one q with h2 | h2
      · rw [show q + q % 2 = q by omega, e3, e4]; exact ⟨by omega, by omega, fun _ => h2⟩
      · rw [h2, e1, e2]; exact ⟨by omega, by omega, fun _ => by omega⟩
    · rw [e3, e4]; refine ⟨by omega, by omega, ?_⟩
      rintro (h | h) <;> omega

/-- A number that is already whole is its own nearest even. -/
@[simp] theorem nearestEven_one (n : Nat) : nearestEven n 1 = n := by
  simp [nearestEven, Nat.mod_one]

/-- `fmax` is one of its operands, bit for bit (40_helper_kernel R103). -/
theorem fmax_cases (a b : Lane) : (fgt a b = true ∧ fmax a b = a) ∨ (fgt a b = false ∧ fmax a b = b) := by
  unfold fmax
  cases h : fgt a b <;> simp

/-- `fmin` is one of its operands, bit for bit (40_helper_kernel R103). -/
theorem fmin_cases (a b : Lane) : (fgt b a = true ∧ fmin a b = a) ∨ (fgt b a = false ∧ fmin a b = b) := by
  unfold fmin flt
  cases h : fgt b a <;> simp

/-- No comparison with a NaN is true (00_scope R14). -/
theorem fgt_of_isNaN (x y : Lane) (h : isNaN x = true ∨ isNaN y = true) : fgt x y = false := by
  rcases h with h | h <;> simp [fgt, h]

/-- On finite values `fgt` compares the exact values (00_scope R14). -/
theorem fgt_of_finite (x y : Lane) (hx : isFinite x = true) (hy : isFinite y = true) :
    fgt x y = decide (value y < value x) := by
  have nx : expField x ≠ 255 := by simpa [isFinite] using hx
  have ny : expField y ≠ 255 := by simpa [isFinite] using hy
  simp [fgt, isNaN, isInf, nx, ny]

end Sys2Proof.Machine
end

