-- ==== Sys2Proof/Laws/PerInstr.lean ====
section
/-!
SUPPORT. One lemma per instruction: the word of every well-formed instruction matches its row of the opcode table, that
is, it agrees with the row's match value on the bits of the row's mask (30_encoding R60, R65, R71).
-/

namespace Sys2Proof.Laws

/-- The row's `mask` in the opcode table: every bit is fixed, but for ENCS all bits except `LEN`. -/
def tableMask : Instr → Cmd
  | .encsUByte2 _ => 0xF1FF#16
  | .encsUByte4 _ => 0xF1FF#16
  | .encsUShort2 _ => 0xF1FF#16
  | .encsUShort4 _ => 0xF1FF#16
  | .encsByte2 _ => 0xF1FF#16
  | .encsByte4 _ => 0xF1FF#16
  | .encsShort2 _ => 0xF1FF#16
  | .encsShort4 _ => 0xF1FF#16
  | .encsUByte2N _ => 0xF1FF#16
  | .encsUByte4N _ => 0xF1FF#16
  | .encsUShort2N _ => 0xF1FF#16
  | .encsUShort4N _ => 0xF1FF#16
  | .encsByte2N _ => 0xF1FF#16
  | .encsByte4N _ => 0xF1FF#16
  | .encsShort2N _ => 0xF1FF#16
  | .encsShort4N _ => 0xF1FF#16
  | .encsHalf2 _ => 0xF1FF#16
  | .encsHalf4 _ => 0xF1FF#16
  | _ => 0xFFFF#16

/-- The row's `match` in the opcode table. -/
def tableMatch : Instr → Cmd
  | .frompUByte2 => 0x0001#16
  | .frompUByte4 => 0x0011#16
  | .frompUShort2 => 0x0021#16
  | .frompUShort4 => 0x0031#16
  | .frompByte2 => 0x0041#16
  | .frompByte4 => 0x0051#16
  | .frompShort2 => 0x0061#16
  | .frompShort4 => 0x0071#16
  | .frompUByte2N => 0x0081#16
  | .frompUByte4N => 0x0091#16
  | .frompUShort2N => 0x00A1#16
  | .frompUShort4N => 0x00B1#16
  | .frompByte2N => 0x00C1#16
  | .frompByte4N => 0x00D1#16
  | .frompShort2N => 0x00E1#16
  | .frompShort4N => 0x00F1#16
  | .frompHalf2 => 0x0121#16
  | .frompHalf4 => 0x0131#16
  | .packUByte2 => 0x0002#16
  | .packUByte4 => 0x0012#16
  | .packUShort2 => 0x0022#16
  | .packUShort4 => 0x0032#16
  | .packByte2 => 0x0042#16
  | .packByte4 => 0x0052#16
  | .packShort2 => 0x0062#16
  | .packShort4 => 0x0072#16
  | .packUByte2N => 0x0082#16
  | .packUByte4N => 0x0092#16
  | .packUShort2N => 0x00A2#16
  | .packUShort4N => 0x00B2#16
  | .packByte2N => 0x00C2#16
  | .packByte4N => 0x00D2#16
  | .packShort2N => 0x00E2#16
  | .packShort4N => 0x00F2#16
  | .packHalf2 => 0x0122#16
  | .packHalf4 => 0x0132#16
  | .unpackUByte2 => 0x0003#16
  | .unpackUByte4 => 0x0013#16
  | .unpackUShort2 => 0x0023#16
  | .unpackUShort4 => 0x0033#16
  | .unpackByte2 => 0x0043#16
  | .unpackByte4 => 0x0053#16
  | .unpackShort2 => 0x0063#16
  | .unpackShort4 => 0x0073#16
  | .unpackUByte2N => 0x0083#16
  | .unpackUByte4N => 0x0093#16
  | .unpackUShort2N => 0x00A3#16
  | .unpackUShort4N => 0x00B3#16
  | .unpackByte2N => 0x00C3#16
  | .unpackByte4N => 0x00D3#16
  | .unpackShort2N => 0x00E3#16
  | .unpackShort4N => 0x00F3#16
  | .unpackHalf2 => 0x0123#16
  | .unpackHalf4 => 0x0133#16
  | .encUByte2 => 0x0004#16
  | .encUByte4 => 0x0014#16
  | .encUShort2 => 0x0024#16
  | .encUShort4 => 0x0034#16
  | .encByte2 => 0x0044#16
  | .encByte4 => 0x0054#16
  | .encShort2 => 0x0064#16
  | .encShort4 => 0x0074#16
  | .encUByte2N => 0x0084#16
  | .encUByte4N => 0x0094#16
  | .encUShort2N => 0x00A4#16
  | .encUShort4N => 0x00B4#16
  | .encByte2N => 0x00C4#16
  | .encByte4N => 0x00D4#16
  | .encShort2N => 0x00E4#16
  | .encShort4N => 0x00F4#16
  | .encHalf2 => 0x0124#16
  | .encHalf4 => 0x0134#16
  | .encsUByte2 _ => 0x0005#16
  | .encsUByte4 _ => 0x0015#16
  | .encsUShort2 _ => 0x0025#16
  | .encsUShort4 _ => 0x0035#16
  | .encsByte2 _ => 0x0045#16
  | .encsByte4 _ => 0x0055#16
  | .encsShort2 _ => 0x0065#16
  | .encsShort4 _ => 0x0075#16
  | .encsUByte2N _ => 0x0085#16
  | .encsUByte4N _ => 0x0095#16
  | .encsUShort2N _ => 0x00A5#16
  | .encsUShort4N _ => 0x00B5#16
  | .encsByte2N _ => 0x00C5#16
  | .encsByte4N _ => 0x00D5#16
  | .encsShort2N _ => 0x00E5#16
  | .encsShort4N _ => 0x00F5#16
  | .encsHalf2 _ => 0x0125#16
  | .encsHalf4 _ => 0x0135#16
  | .decUByte2 => 0x0006#16
  | .decUByte4 => 0x0016#16
  | .decUShort2 => 0x0026#16
  | .decUShort4 => 0x0036#16
  | .decByte2 => 0x0046#16
  | .decByte4 => 0x0056#16
  | .decShort2 => 0x0066#16
  | .decShort4 => 0x0076#16
  | .decUByte2N => 0x0086#16
  | .decUByte4N => 0x0096#16
  | .decUShort2N => 0x00A6#16
  | .decUShort4N => 0x00B6#16
  | .decByte2N => 0x00C6#16
  | .decByte4N => 0x00D6#16
  | .decShort2N => 0x00E6#16
  | .decShort4N => 0x00F6#16
  | .decHalf2 => 0x0126#16
  | .decHalf4 => 0x0136#16
  | .cmpeqUByte2 => 0x0007#16
  | .cmpeqUByte4 => 0x0017#16
  | .cmpeqUShort2 => 0x0027#16
  | .cmpeqUShort4 => 0x0037#16
  | .cmpeqByte2 => 0x0047#16
  | .cmpeqByte4 => 0x0057#16
  | .cmpeqShort2 => 0x0067#16
  | .cmpeqShort4 => 0x0077#16
  | .cmpeqUByte2N => 0x0087#16
  | .cmpeqUByte4N => 0x0097#16
  | .cmpeqUShort2N => 0x00A7#16
  | .cmpeqUShort4N => 0x00B7#16
  | .cmpeqByte2N => 0x00C7#16
  | .cmpeqByte4N => 0x00D7#16
  | .cmpeqShort2N => 0x00E7#16
  | .cmpeqShort4N => 0x00F7#16
  | .cmpeqHalf2 => 0x0127#16
  | .cmpeqHalf4 => 0x0137#16
  | .vclamp2 => 0x0008#16
  | .vclamp4 => 0x0018#16
  | .vround2 => 0x0009#16
  | .vround4 => 0x0019#16
  | .vtrunc2 => 0x000A#16
  | .vtrunc4 => 0x001A#16
  | .vsat2 => 0x000B#16
  | .vsat4 => 0x001B#16
  | .vmadd2 => 0x000C#16
  | .vmadd4 => 0x001C#16

/-- The word of the instruction, if it is well formed, matches its row of the opcode table. -/
def TableRow.Statement (i : Instr) : Prop :=
  i.wellFormed = true → encode i &&& tableMask i = tableMatch i

theorem TableRow.frompUByte2 : TableRow.Statement .frompUByte2 := fun _ => rfl
theorem TableRow.frompUByte4 : TableRow.Statement .frompUByte4 := fun _ => rfl
theorem TableRow.frompUShort2 : TableRow.Statement .frompUShort2 := fun _ => rfl
theorem TableRow.frompUShort4 : TableRow.Statement .frompUShort4 := fun _ => rfl
theorem TableRow.frompByte2 : TableRow.Statement .frompByte2 := fun _ => rfl
theorem TableRow.frompByte4 : TableRow.Statement .frompByte4 := fun _ => rfl
theorem TableRow.frompShort2 : TableRow.Statement .frompShort2 := fun _ => rfl
theorem TableRow.frompShort4 : TableRow.Statement .frompShort4 := fun _ => rfl
theorem TableRow.frompUByte2N : TableRow.Statement .frompUByte2N := fun _ => rfl
theorem TableRow.frompUByte4N : TableRow.Statement .frompUByte4N := fun _ => rfl
theorem TableRow.frompUShort2N : TableRow.Statement .frompUShort2N := fun _ => rfl
theorem TableRow.frompUShort4N : TableRow.Statement .frompUShort4N := fun _ => rfl
theorem TableRow.frompByte2N : TableRow.Statement .frompByte2N := fun _ => rfl
theorem TableRow.frompByte4N : TableRow.Statement .frompByte4N := fun _ => rfl
theorem TableRow.frompShort2N : TableRow.Statement .frompShort2N := fun _ => rfl
theorem TableRow.frompShort4N : TableRow.Statement .frompShort4N := fun _ => rfl
theorem TableRow.frompHalf2 : TableRow.Statement .frompHalf2 := fun _ => rfl
theorem TableRow.frompHalf4 : TableRow.Statement .frompHalf4 := fun _ => rfl
theorem TableRow.packUByte2 : TableRow.Statement .packUByte2 := fun _ => rfl
theorem TableRow.packUByte4 : TableRow.Statement .packUByte4 := fun _ => rfl
theorem TableRow.packUShort2 : TableRow.Statement .packUShort2 := fun _ => rfl
theorem TableRow.packUShort4 : TableRow.Statement .packUShort4 := fun _ => rfl
theorem TableRow.packByte2 : TableRow.Statement .packByte2 := fun _ => rfl
theorem TableRow.packByte4 : TableRow.Statement .packByte4 := fun _ => rfl
theorem TableRow.packShort2 : TableRow.Statement .packShort2 := fun _ => rfl
theorem TableRow.packShort4 : TableRow.Statement .packShort4 := fun _ => rfl
theorem TableRow.packUByte2N : TableRow.Statement .packUByte2N := fun _ => rfl
theorem TableRow.packUByte4N : TableRow.Statement .packUByte4N := fun _ => rfl
theorem TableRow.packUShort2N : TableRow.Statement .packUShort2N := fun _ => rfl
theorem TableRow.packUShort4N : TableRow.Statement .packUShort4N := fun _ => rfl
theorem TableRow.packByte2N : TableRow.Statement .packByte2N := fun _ => rfl
theorem TableRow.packByte4N : TableRow.Statement .packByte4N := fun _ => rfl
theorem TableRow.packShort2N : TableRow.Statement .packShort2N := fun _ => rfl
theorem TableRow.packShort4N : TableRow.Statement .packShort4N := fun _ => rfl
theorem TableRow.packHalf2 : TableRow.Statement .packHalf2 := fun _ => rfl
theorem TableRow.packHalf4 : TableRow.Statement .packHalf4 := fun _ => rfl
theorem TableRow.unpackUByte2 : TableRow.Statement .unpackUByte2 := fun _ => rfl
theorem TableRow.unpackUByte4 : TableRow.Statement .unpackUByte4 := fun _ => rfl
theorem TableRow.unpackUShort2 : TableRow.Statement .unpackUShort2 := fun _ => rfl
theorem TableRow.unpackUShort4 : TableRow.Statement .unpackUShort4 := fun _ => rfl
theorem TableRow.unpackByte2 : TableRow.Statement .unpackByte2 := fun _ => rfl
theorem TableRow.unpackByte4 : TableRow.Statement .unpackByte4 := fun _ => rfl
theorem TableRow.unpackShort2 : TableRow.Statement .unpackShort2 := fun _ => rfl
theorem TableRow.unpackShort4 : TableRow.Statement .unpackShort4 := fun _ => rfl
theorem TableRow.unpackUByte2N : TableRow.Statement .unpackUByte2N := fun _ => rfl
theorem TableRow.unpackUByte4N : TableRow.Statement .unpackUByte4N := fun _ => rfl
theorem TableRow.unpackUShort2N : TableRow.Statement .unpackUShort2N := fun _ => rfl
theorem TableRow.unpackUShort4N : TableRow.Statement .unpackUShort4N := fun _ => rfl
theorem TableRow.unpackByte2N : TableRow.Statement .unpackByte2N := fun _ => rfl
theorem TableRow.unpackByte4N : TableRow.Statement .unpackByte4N := fun _ => rfl
theorem TableRow.unpackShort2N : TableRow.Statement .unpackShort2N := fun _ => rfl
theorem TableRow.unpackShort4N : TableRow.Statement .unpackShort4N := fun _ => rfl
theorem TableRow.unpackHalf2 : TableRow.Statement .unpackHalf2 := fun _ => rfl
theorem TableRow.unpackHalf4 : TableRow.Statement .unpackHalf4 := fun _ => rfl
theorem TableRow.encUByte2 : TableRow.Statement .encUByte2 := fun _ => rfl
theorem TableRow.encUByte4 : TableRow.Statement .encUByte4 := fun _ => rfl
theorem TableRow.encUShort2 : TableRow.Statement .encUShort2 := fun _ => rfl
theorem TableRow.encUShort4 : TableRow.Statement .encUShort4 := fun _ => rfl
theorem TableRow.encByte2 : TableRow.Statement .encByte2 := fun _ => rfl
theorem TableRow.encByte4 : TableRow.Statement .encByte4 := fun _ => rfl
theorem TableRow.encShort2 : TableRow.Statement .encShort2 := fun _ => rfl
theorem TableRow.encShort4 : TableRow.Statement .encShort4 := fun _ => rfl
theorem TableRow.encUByte2N : TableRow.Statement .encUByte2N := fun _ => rfl
theorem TableRow.encUByte4N : TableRow.Statement .encUByte4N := fun _ => rfl
theorem TableRow.encUShort2N : TableRow.Statement .encUShort2N := fun _ => rfl
theorem TableRow.encUShort4N : TableRow.Statement .encUShort4N := fun _ => rfl
theorem TableRow.encByte2N : TableRow.Statement .encByte2N := fun _ => rfl
theorem TableRow.encByte4N : TableRow.Statement .encByte4N := fun _ => rfl
theorem TableRow.encShort2N : TableRow.Statement .encShort2N := fun _ => rfl
theorem TableRow.encShort4N : TableRow.Statement .encShort4N := fun _ => rfl
theorem TableRow.encHalf2 : TableRow.Statement .encHalf2 := fun _ => rfl
theorem TableRow.encHalf4 : TableRow.Statement .encHalf4 := fun _ => rfl
theorem TableRow.encsUByte2 (len : Nat) : TableRow.Statement (.encsUByte2 len) := fun h => by
  have hl : len < 8 := of_decide_eq_true h
  interval_cases len <;> rfl
theorem TableRow.encsUByte4 (len : Nat) : TableRow.Statement (.encsUByte4 len) := fun h => by
  have hl : len < 8 := of_decide_eq_true h
  interval_cases len <;> rfl
theorem TableRow.encsUShort2 (len : Nat) : TableRow.Statement (.encsUShort2 len) := fun h => by
  have hl : len < 8 := of_decide_eq_true h
  interval_cases len <;> rfl
theorem TableRow.encsUShort4 (len : Nat) : TableRow.Statement (.encsUShort4 len) := fun h => by
  have hl : len < 8 := of_decide_eq_true h
  interval_cases len <;> rfl
theorem TableRow.encsByte2 (len : Nat) : TableRow.Statement (.encsByte2 len) := fun h => by
  have hl : len < 8 := of_decide_eq_true h
  interval_cases len <;> rfl
theorem TableRow.encsByte4 (len : Nat) : TableRow.Statement (.encsByte4 len) := fun h => by
  have hl : len < 8 := of_decide_eq_true h
  interval_cases len <;> rfl
theorem TableRow.encsShort2 (len : Nat) : TableRow.Statement (.encsShort2 len) := fun h => by
  have hl : len < 8 := of_decide_eq_true h
  interval_cases len <;> rfl
theorem TableRow.encsShort4 (len : Nat) : TableRow.Statement (.encsShort4 len) := fun h => by
  have hl : len < 8 := of_decide_eq_true h
  interval_cases len <;> rfl
theorem TableRow.encsUByte2N (len : Nat) : TableRow.Statement (.encsUByte2N len) := fun h => by
  have hl : len < 8 := of_decide_eq_true h
  interval_cases len <;> rfl
theorem TableRow.encsUByte4N (len : Nat) : TableRow.Statement (.encsUByte4N len) := fun h => by
  have hl : len < 8 := of_decide_eq_true h
  interval_cases len <;> rfl
theorem TableRow.encsUShort2N (len : Nat) : TableRow.Statement (.encsUShort2N len) := fun h => by
  have hl : len < 8 := of_decide_eq_true h
  interval_cases len <;> rfl
theorem TableRow.encsUShort4N (len : Nat) : TableRow.Statement (.encsUShort4N len) := fun h => by
  have hl : len < 8 := of_decide_eq_true h
  interval_cases len <;> rfl
theorem TableRow.encsByte2N (len : Nat) : TableRow.Statement (.encsByte2N len) := fun h => by
  have hl : len < 8 := of_decide_eq_true h
  interval_cases len <;> rfl
theorem TableRow.encsByte4N (len : Nat) : TableRow.Statement (.encsByte4N len) := fun h => by
  have hl : len < 8 := of_decide_eq_true h
  interval_cases len <;> rfl
theorem TableRow.encsShort2N (len : Nat) : TableRow.Statement (.encsShort2N len) := fun h => by
  have hl : len < 8 := of_decide_eq_true h
  interval_cases len <;> rfl
theorem TableRow.encsShort4N (len : Nat) : TableRow.Statement (.encsShort4N len) := fun h => by
  have hl : len < 8 := of_decide_eq_true h
  interval_cases len <;> rfl
theorem TableRow.encsHalf2 (len : Nat) : TableRow.Statement (.encsHalf2 len) := fun h => by
  have hl : len < 8 := of_decide_eq_true h
  interval_cases len <;> rfl
theorem TableRow.encsHalf4 (len : Nat) : TableRow.Statement (.encsHalf4 len) := fun h => by
  have hl : len < 8 := of_decide_eq_true h
  interval_cases len <;> rfl
theorem TableRow.decUByte2 : TableRow.Statement .decUByte2 := fun _ => rfl
theorem TableRow.decUByte4 : TableRow.Statement .decUByte4 := fun _ => rfl
theorem TableRow.decUShort2 : TableRow.Statement .decUShort2 := fun _ => rfl
theorem TableRow.decUShort4 : TableRow.Statement .decUShort4 := fun _ => rfl
theorem TableRow.decByte2 : TableRow.Statement .decByte2 := fun _ => rfl
theorem TableRow.decByte4 : TableRow.Statement .decByte4 := fun _ => rfl
theorem TableRow.decShort2 : TableRow.Statement .decShort2 := fun _ => rfl
theorem TableRow.decShort4 : TableRow.Statement .decShort4 := fun _ => rfl
theorem TableRow.decUByte2N : TableRow.Statement .decUByte2N := fun _ => rfl
theorem TableRow.decUByte4N : TableRow.Statement .decUByte4N := fun _ => rfl
theorem TableRow.decUShort2N : TableRow.Statement .decUShort2N := fun _ => rfl
theorem TableRow.decUShort4N : TableRow.Statement .decUShort4N := fun _ => rfl
theorem TableRow.decByte2N : TableRow.Statement .decByte2N := fun _ => rfl
theorem TableRow.decByte4N : TableRow.Statement .decByte4N := fun _ => rfl
theorem TableRow.decShort2N : TableRow.Statement .decShort2N := fun _ => rfl
theorem TableRow.decShort4N : TableRow.Statement .decShort4N := fun _ => rfl
theorem TableRow.decHalf2 : TableRow.Statement .decHalf2 := fun _ => rfl
theorem TableRow.decHalf4 : TableRow.Statement .decHalf4 := fun _ => rfl
theorem TableRow.cmpeqUByte2 : TableRow.Statement .cmpeqUByte2 := fun _ => rfl
theorem TableRow.cmpeqUByte4 : TableRow.Statement .cmpeqUByte4 := fun _ => rfl
theorem TableRow.cmpeqUShort2 : TableRow.Statement .cmpeqUShort2 := fun _ => rfl
theorem TableRow.cmpeqUShort4 : TableRow.Statement .cmpeqUShort4 := fun _ => rfl
theorem TableRow.cmpeqByte2 : TableRow.Statement .cmpeqByte2 := fun _ => rfl
theorem TableRow.cmpeqByte4 : TableRow.Statement .cmpeqByte4 := fun _ => rfl
theorem TableRow.cmpeqShort2 : TableRow.Statement .cmpeqShort2 := fun _ => rfl
theorem TableRow.cmpeqShort4 : TableRow.Statement .cmpeqShort4 := fun _ => rfl
theorem TableRow.cmpeqUByte2N : TableRow.Statement .cmpeqUByte2N := fun _ => rfl
theorem TableRow.cmpeqUByte4N : TableRow.Statement .cmpeqUByte4N := fun _ => rfl
theorem TableRow.cmpeqUShort2N : TableRow.Statement .cmpeqUShort2N := fun _ => rfl
theorem TableRow.cmpeqUShort4N : TableRow.Statement .cmpeqUShort4N := fun _ => rfl
theorem TableRow.cmpeqByte2N : TableRow.Statement .cmpeqByte2N := fun _ => rfl
theorem TableRow.cmpeqByte4N : TableRow.Statement .cmpeqByte4N := fun _ => rfl
theorem TableRow.cmpeqShort2N : TableRow.Statement .cmpeqShort2N := fun _ => rfl
theorem TableRow.cmpeqShort4N : TableRow.Statement .cmpeqShort4N := fun _ => rfl
theorem TableRow.cmpeqHalf2 : TableRow.Statement .cmpeqHalf2 := fun _ => rfl
theorem TableRow.cmpeqHalf4 : TableRow.Statement .cmpeqHalf4 := fun _ => rfl
theorem TableRow.vclamp2 : TableRow.Statement .vclamp2 := fun _ => rfl
theorem TableRow.vclamp4 : TableRow.Statement .vclamp4 := fun _ => rfl
theorem TableRow.vround2 : TableRow.Statement .vround2 := fun _ => rfl
theorem TableRow.vround4 : TableRow.Statement .vround4 := fun _ => rfl
theorem TableRow.vtrunc2 : TableRow.Statement .vtrunc2 := fun _ => rfl
theorem TableRow.vtrunc4 : TableRow.Statement .vtrunc4 := fun _ => rfl
theorem TableRow.vsat2 : TableRow.Statement .vsat2 := fun _ => rfl
theorem TableRow.vsat4 : TableRow.Statement .vsat4 := fun _ => rfl
theorem TableRow.vmadd2 : TableRow.Statement .vmadd2 := fun _ => rfl
theorem TableRow.vmadd4 : TableRow.Statement .vmadd4 := fun _ => rfl

end Sys2Proof.Laws
end

