-- ==== Sys2Proof/Laws/State.lean ====
section
/-!
SUPPORT. One lemma per field per update of State, true by rfl, so that no later proof unfolds a record update.
-/

namespace Sys2Proof.Machine

@[simp] theorem reset_pins : State.reset.pins = Pins.quiet := rfl
@[simp] theorem reset_moves : State.reset.moves = [] := rfl
@[simp] theorem reset_busy : State.reset.busy = false := rfl
@[simp] theorem reset_rspValid : State.reset.rspValid = false := rfl
@[simp] theorem reset_latency : State.reset.latency = 1 := rfl
@[simp] theorem reset_taken : State.reset.taken = [] := rfl

@[simp] theorem respond_pins (st : Status) (r : Bus) (s : State) :
    (respond st r s).pins = s.pins := rfl
@[simp] theorem respond_moves (st : Status) (r : Bus) (s : State) :
    (respond st r s).moves = s.moves := rfl
@[simp] theorem respond_busy (st : Status) (r : Bus) (s : State) :
    (respond st r s).busy = s.busy := rfl
@[simp] theorem respond_latch (st : Status) (r : Bus) (s : State) :
    (respond st r s).latch = s.latch := rfl
@[simp] theorem respond_rspValid (st : Status) (r : Bus) (s : State) :
    (respond st r s).rspValid = true := rfl
@[simp] theorem respond_rspStatus (st : Status) (r : Bus) (s : State) :
    (respond st r s).rspStatus = st.code := rfl
@[simp] theorem respond_rspData (st : Status) (r : Bus) (s : State) :
    (respond st r s).rspData = r := rfl
@[simp] theorem respond_elapsed (st : Status) (r : Bus) (s : State) :
    (respond st r s).elapsed = s.elapsed := rfl
@[simp] theorem respond_latency (st : Status) (r : Bus) (s : State) :
    (respond st r s).latency = s.latency := rfl
@[simp] theorem respond_freeIndex (st : Status) (r : Bus) (s : State) :
    (respond st r s).freeIndex = s.freeIndex := rfl
@[simp] theorem respond_taken (st : Status) (r : Bus) (s : State) :
    (respond st r s).taken = s.taken := rfl

@[simp] theorem raise_pins (e : Cause) (s : State) :
    (raise e s).pins = s.pins := rfl
@[simp] theorem raise_moves (e : Cause) (s : State) :
    (raise e s).moves = s.moves := rfl
@[simp] theorem raise_busy (e : Cause) (s : State) :
    (raise e s).busy = s.busy := rfl
@[simp] theorem raise_latch (e : Cause) (s : State) :
    (raise e s).latch = s.latch := rfl
@[simp] theorem raise_rspValid (e : Cause) (s : State) :
    (raise e s).rspValid = true := rfl
@[simp] theorem raise_rspStatus (e : Cause) (s : State) :
    (raise e s).rspStatus = e.status.code := rfl
@[simp] theorem raise_rspData (e : Cause) (s : State) :
    (raise e s).rspData = 0 := rfl
@[simp] theorem raise_elapsed (e : Cause) (s : State) :
    (raise e s).elapsed = s.elapsed := rfl
@[simp] theorem raise_latency (e : Cause) (s : State) :
    (raise e s).latency = s.latency := rfl
@[simp] theorem raise_freeIndex (e : Cause) (s : State) :
    (raise e s).freeIndex = s.freeIndex := rfl
@[simp] theorem raise_taken (e : Cause) (s : State) :
    (raise e s).taken = s.taken := rfl

@[simp] theorem respondFields_pins (w n : Nat) (f : Nat → BitVec w) (s : State) :
    (respondFields w n f s).pins = s.pins := rfl
@[simp] theorem respondFields_moves (w n : Nat) (f : Nat → BitVec w) (s : State) :
    (respondFields w n f s).moves = s.moves := rfl
@[simp] theorem respondFields_busy (w n : Nat) (f : Nat → BitVec w) (s : State) :
    (respondFields w n f s).busy = s.busy := rfl
@[simp] theorem respondFields_latch (w n : Nat) (f : Nat → BitVec w) (s : State) :
    (respondFields w n f s).latch = s.latch := rfl
@[simp] theorem respondFields_rspValid (w n : Nat) (f : Nat → BitVec w) (s : State) :
    (respondFields w n f s).rspValid = true := rfl
@[simp] theorem respondFields_rspStatus (w n : Nat) (f : Nat → BitVec w) (s : State) :
    (respondFields w n f s).rspStatus = Status.ok.code := rfl
@[simp] theorem respondFields_rspData (w n : Nat) (f : Nat → BitVec w) (s : State) :
    (respondFields w n f s).rspData = packFields w f n := rfl
@[simp] theorem respondFields_elapsed (w n : Nat) (f : Nat → BitVec w) (s : State) :
    (respondFields w n f s).elapsed = s.elapsed := rfl
@[simp] theorem respondFields_latency (w n : Nat) (f : Nat → BitVec w) (s : State) :
    (respondFields w n f s).latency = s.latency := rfl
@[simp] theorem respondFields_freeIndex (w n : Nat) (f : Nat → BitVec w) (s : State) :
    (respondFields w n f s).freeIndex = s.freeIndex := rfl
@[simp] theorem respondFields_taken (w n : Nat) (f : Nat → BitVec w) (s : State) :
    (respondFields w n f s).taken = s.taken := rfl

@[simp] theorem floatResponse_pins (s : State) :
    (floatResponse s).pins = s.pins := rfl
@[simp] theorem floatResponse_moves (s : State) :
    (floatResponse s).moves = s.moves := rfl
@[simp] theorem floatResponse_busy (s : State) :
    (floatResponse s).busy = s.busy := rfl
@[simp] theorem floatResponse_latch (s : State) :
    (floatResponse s).latch = s.latch := rfl
@[simp] theorem floatResponse_rspValid (s : State) :
    (floatResponse s).rspValid = false := rfl
@[simp] theorem floatResponse_rspStatus (s : State) :
    (floatResponse s).rspStatus = Config.freeStatus s.freeIndex := rfl
@[simp] theorem floatResponse_rspData (s : State) :
    (floatResponse s).rspData = Config.freeData s.freeIndex := rfl
@[simp] theorem floatResponse_elapsed (s : State) :
    (floatResponse s).elapsed = s.elapsed := rfl
@[simp] theorem floatResponse_latency (s : State) :
    (floatResponse s).latency = s.latency := rfl
@[simp] theorem floatResponse_freeIndex (s : State) :
    (floatResponse s).freeIndex = s.freeIndex + 1 := rfl
@[simp] theorem floatResponse_taken (s : State) :
    (floatResponse s).taken = s.taken := rfl

@[simp] theorem floatLatch_pins (s : State) :
    (floatLatch s).pins = s.pins := rfl
@[simp] theorem floatLatch_moves (s : State) :
    (floatLatch s).moves = s.moves := rfl
@[simp] theorem floatLatch_busy (s : State) :
    (floatLatch s).busy = false := rfl
@[simp] theorem floatLatch_latch (s : State) :
    (floatLatch s).latch = ⟨Config.freeCmd s.freeIndex, Config.freeOperandA s.freeIndex, Config.freeOperandB s.freeIndex, Config.freeOperandC s.freeIndex⟩ := rfl
@[simp] theorem floatLatch_rspValid (s : State) :
    (floatLatch s).rspValid = s.rspValid := rfl
@[simp] theorem floatLatch_rspStatus (s : State) :
    (floatLatch s).rspStatus = s.rspStatus := rfl
@[simp] theorem floatLatch_rspData (s : State) :
    (floatLatch s).rspData = s.rspData := rfl
@[simp] theorem floatLatch_elapsed (s : State) :
    (floatLatch s).elapsed = s.elapsed := rfl
@[simp] theorem floatLatch_latency (s : State) :
    (floatLatch s).latency = s.latency := rfl
@[simp] theorem floatLatch_freeIndex (s : State) :
    (floatLatch s).freeIndex = s.freeIndex := rfl
@[simp] theorem floatLatch_taken (s : State) :
    (floatLatch s).taken = s.taken := rfl

@[simp] theorem goIdle_pins (s : State) :
    (goIdle s).pins = s.pins := rfl
@[simp] theorem goIdle_moves (s : State) :
    (goIdle s).moves = s.moves := rfl
@[simp] theorem goIdle_busy (s : State) :
    (goIdle s).busy = false := rfl
@[simp] theorem goIdle_latch (s : State) :
    (goIdle s).latch = ⟨Config.freeCmd s.freeIndex, Config.freeOperandA s.freeIndex, Config.freeOperandB s.freeIndex, Config.freeOperandC s.freeIndex⟩ := rfl
@[simp] theorem goIdle_rspValid (s : State) :
    (goIdle s).rspValid = false := rfl
@[simp] theorem goIdle_rspStatus (s : State) :
    (goIdle s).rspStatus = Config.freeStatus s.freeIndex := rfl
@[simp] theorem goIdle_rspData (s : State) :
    (goIdle s).rspData = Config.freeData s.freeIndex := rfl
@[simp] theorem goIdle_elapsed (s : State) :
    (goIdle s).elapsed = 0 := rfl
@[simp] theorem goIdle_latency (s : State) :
    (goIdle s).latency = s.latency := rfl
@[simp] theorem goIdle_freeIndex (s : State) :
    (goIdle s).freeIndex = s.freeIndex + 1 := rfl
@[simp] theorem goIdle_taken (s : State) :
    (goIdle s).taken = s.taken := rfl

@[simp] theorem resetEdge_pins (s : State) :
    (resetEdge s).pins = s.pins := rfl
@[simp] theorem resetEdge_moves (s : State) :
    (resetEdge s).moves = s.moves := rfl
@[simp] theorem resetEdge_busy (s : State) :
    (resetEdge s).busy = false := rfl
@[simp] theorem resetEdge_latch (s : State) :
    (resetEdge s).latch = ⟨Config.freeCmd s.freeIndex, Config.freeOperandA s.freeIndex, Config.freeOperandB s.freeIndex, Config.freeOperandC s.freeIndex⟩ := rfl
@[simp] theorem resetEdge_rspValid (s : State) :
    (resetEdge s).rspValid = false := rfl
@[simp] theorem resetEdge_rspStatus (s : State) :
    (resetEdge s).rspStatus = Config.freeStatus s.freeIndex := rfl
@[simp] theorem resetEdge_rspData (s : State) :
    (resetEdge s).rspData = Config.freeData s.freeIndex := rfl
@[simp] theorem resetEdge_elapsed (s : State) :
    (resetEdge s).elapsed = 0 := rfl
@[simp] theorem resetEdge_latency (s : State) :
    (resetEdge s).latency = s.latency := rfl
@[simp] theorem resetEdge_freeIndex (s : State) :
    (resetEdge s).freeIndex = s.freeIndex + 1 := rfl
@[simp] theorem resetEdge_taken (s : State) :
    (resetEdge s).taken = s.taken := rfl

@[simp] theorem idleEdge_pins (s : State) :
    (idleEdge s).pins = s.pins := rfl
@[simp] theorem idleEdge_moves (s : State) :
    (idleEdge s).moves = s.moves := rfl
@[simp] theorem idleEdge_busy (s : State) :
    (idleEdge s).busy = false := rfl
@[simp] theorem idleEdge_latch (s : State) :
    (idleEdge s).latch = ⟨Config.freeCmd s.freeIndex, Config.freeOperandA s.freeIndex, Config.freeOperandB s.freeIndex, Config.freeOperandC s.freeIndex⟩ := rfl
@[simp] theorem idleEdge_rspValid (s : State) :
    (idleEdge s).rspValid = false := rfl
@[simp] theorem idleEdge_rspStatus (s : State) :
    (idleEdge s).rspStatus = Config.freeStatus s.freeIndex := rfl
@[simp] theorem idleEdge_rspData (s : State) :
    (idleEdge s).rspData = Config.freeData s.freeIndex := rfl
@[simp] theorem idleEdge_elapsed (s : State) :
    (idleEdge s).elapsed = 0 := rfl
@[simp] theorem idleEdge_latency (s : State) :
    (idleEdge s).latency = s.latency := rfl
@[simp] theorem idleEdge_freeIndex (s : State) :
    (idleEdge s).freeIndex = s.freeIndex + 1 := rfl
@[simp] theorem idleEdge_taken (s : State) :
    (idleEdge s).taken = s.taken := rfl

@[simp] theorem acceptEdge_pins (s : State) :
    (acceptEdge s).pins = s.pins := rfl
@[simp] theorem acceptEdge_moves (s : State) :
    (acceptEdge s).moves = s.moves := rfl
@[simp] theorem acceptEdge_busy (s : State) :
    (acceptEdge s).busy = true := rfl
@[simp] theorem acceptEdge_latch (s : State) :
    (acceptEdge s).latch = s.pins.req := rfl
@[simp] theorem acceptEdge_rspValid (s : State) :
    (acceptEdge s).rspValid = false := rfl
@[simp] theorem acceptEdge_rspStatus (s : State) :
    (acceptEdge s).rspStatus = Config.freeStatus s.freeIndex := rfl
@[simp] theorem acceptEdge_rspData (s : State) :
    (acceptEdge s).rspData = Config.freeData s.freeIndex := rfl
@[simp] theorem acceptEdge_elapsed (s : State) :
    (acceptEdge s).elapsed = 0 := rfl
@[simp] theorem acceptEdge_latency (s : State) :
    (acceptEdge s).latency = s.latency := rfl
@[simp] theorem acceptEdge_freeIndex (s : State) :
    (acceptEdge s).freeIndex = s.freeIndex + 1 := rfl
@[simp] theorem acceptEdge_taken (s : State) :
    (acceptEdge s).taken = s.taken := rfl

@[simp] theorem waitEdge_pins (s : State) :
    (waitEdge s).pins = s.pins := rfl
@[simp] theorem waitEdge_moves (s : State) :
    (waitEdge s).moves = s.moves := rfl
@[simp] theorem waitEdge_busy (s : State) :
    (waitEdge s).busy = s.busy := rfl
@[simp] theorem waitEdge_latch (s : State) :
    (waitEdge s).latch = s.latch := rfl
@[simp] theorem waitEdge_rspValid (s : State) :
    (waitEdge s).rspValid = false := rfl
@[simp] theorem waitEdge_rspStatus (s : State) :
    (waitEdge s).rspStatus = Config.freeStatus s.freeIndex := rfl
@[simp] theorem waitEdge_rspData (s : State) :
    (waitEdge s).rspData = Config.freeData s.freeIndex := rfl
@[simp] theorem waitEdge_elapsed (s : State) :
    (waitEdge s).elapsed = s.elapsed + 1 := rfl
@[simp] theorem waitEdge_latency (s : State) :
    (waitEdge s).latency = s.latency := rfl
@[simp] theorem waitEdge_freeIndex (s : State) :
    (waitEdge s).freeIndex = s.freeIndex + 1 := rfl
@[simp] theorem waitEdge_taken (s : State) :
    (waitEdge s).taken = s.taken := rfl

@[simp] theorem takeEdge_pins (s : State) :
    (takeEdge s).pins = s.pins := rfl
@[simp] theorem takeEdge_moves (s : State) :
    (takeEdge s).moves = s.moves := rfl
@[simp] theorem takeEdge_busy (s : State) :
    (takeEdge s).busy = false := rfl
@[simp] theorem takeEdge_latch (s : State) :
    (takeEdge s).latch = ⟨Config.freeCmd s.freeIndex, Config.freeOperandA s.freeIndex, Config.freeOperandB s.freeIndex, Config.freeOperandC s.freeIndex⟩ := rfl
@[simp] theorem takeEdge_rspValid (s : State) :
    (takeEdge s).rspValid = false := rfl
@[simp] theorem takeEdge_rspStatus (s : State) :
    (takeEdge s).rspStatus = Config.freeStatus s.freeIndex := rfl
@[simp] theorem takeEdge_rspData (s : State) :
    (takeEdge s).rspData = Config.freeData s.freeIndex := rfl
@[simp] theorem takeEdge_elapsed (s : State) :
    (takeEdge s).elapsed = 0 := rfl
@[simp] theorem takeEdge_latency (s : State) :
    (takeEdge s).latency = s.latency := rfl
@[simp] theorem takeEdge_freeIndex (s : State) :
    (takeEdge s).freeIndex = s.freeIndex + 1 := rfl
@[simp] theorem takeEdge_taken (s : State) :
    (takeEdge s).taken = s.taken ++ [⟨s.rspStatus, s.rspData⟩] := rfl

@[simp] theorem hostDrives_pins (s : State) :
    (hostDrives s).pins = s.moves.headD s.pins := rfl
@[simp] theorem hostDrives_moves (s : State) :
    (hostDrives s).moves = s.moves.tail := rfl
@[simp] theorem hostDrives_busy (s : State) :
    (hostDrives s).busy = s.busy := rfl
@[simp] theorem hostDrives_latch (s : State) :
    (hostDrives s).latch = s.latch := rfl
@[simp] theorem hostDrives_rspValid (s : State) :
    (hostDrives s).rspValid = s.rspValid := rfl
@[simp] theorem hostDrives_rspStatus (s : State) :
    (hostDrives s).rspStatus = s.rspStatus := rfl
@[simp] theorem hostDrives_rspData (s : State) :
    (hostDrives s).rspData = s.rspData := rfl
@[simp] theorem hostDrives_elapsed (s : State) :
    (hostDrives s).elapsed = s.elapsed := rfl
@[simp] theorem hostDrives_latency (s : State) :
    (hostDrives s).latency = s.latency := rfl
@[simp] theorem hostDrives_freeIndex (s : State) :
    (hostDrives s).freeIndex = s.freeIndex := rfl
@[simp] theorem hostDrives_taken (s : State) :
    (hostDrives s).taken = s.taken := rfl

@[simp] theorem placeCommand_pins (s : State) (nbits w : Nat) :
    (placeCommand s nbits w).pins = { s.pins with rst := false } := rfl
@[simp] theorem placeCommand_moves (s : State) (nbits w : Nat) :
    (placeCommand s nbits w).moves = s.moves := rfl
@[simp] theorem placeCommand_busy (s : State) (nbits w : Nat) :
    (placeCommand s nbits w).busy = true := rfl
@[simp] theorem placeCommand_latch (s : State) (nbits w : Nat) :
    (placeCommand s nbits w).latch = { s.latch with cmd := BitVec.ofNat 16 (w % 2 ^ nbits) } := rfl
@[simp] theorem placeCommand_rspValid (s : State) (nbits w : Nat) :
    (placeCommand s nbits w).rspValid = false := rfl
@[simp] theorem placeCommand_rspStatus (s : State) (nbits w : Nat) :
    (placeCommand s nbits w).rspStatus = s.rspStatus := rfl
@[simp] theorem placeCommand_rspData (s : State) (nbits w : Nat) :
    (placeCommand s nbits w).rspData = s.rspData := rfl
@[simp] theorem placeCommand_elapsed (s : State) (nbits w : Nat) :
    (placeCommand s nbits w).elapsed = s.latency - 1 := rfl
@[simp] theorem placeCommand_latency (s : State) (nbits w : Nat) :
    (placeCommand s nbits w).latency = s.latency := rfl
@[simp] theorem placeCommand_freeIndex (s : State) (nbits w : Nat) :
    (placeCommand s nbits w).freeIndex = s.freeIndex := rfl
@[simp] theorem placeCommand_taken (s : State) (nbits w : Nat) :
    (placeCommand s nbits w).taken = s.taken := rfl

end Sys2Proof.Machine
end

