-- ==== Sys2Proof/Laws/Step.lean ====
section
/-!
SUPPORT. What one step can do, said once: the cases of a rising edge (10_state R23, 70_reset_and_hazards R270 to R277), and
each case as an equation.
-/

namespace Sys2Proof.Machine

open Host (Outcome)

/-- An edge with `rst = 1`. -/
theorem step_reset {s : State} (h : s.pins.rst = true) : step s = .next (hostDrives (resetEdge s)) := by
  simp [step, risingEdge, h]

/-- The edge on which a presented response is taken. -/
theorem step_take {s : State} (h : s.pins.rst = false) (hv : s.rspValid = true) (hr : s.pins.rspReady = true) :
    step s = .next (hostDrives (takeEdge s)) := by
  simp [step, risingEdge, h, hv, hr]

/-- An edge on which a presented response is held. -/
theorem step_hold {s : State} (h : s.pins.rst = false) (hv : s.rspValid = true) (hr : s.pins.rspReady = false) :
    step s = .next (hostDrives s) := by
  simp [step, risingEdge, h, hv, hr]

/-- The edge on which the response becomes due: the latched command runs. -/
theorem step_run {s : State} (h : s.pins.rst = false) (hv : s.rspValid = false) (hb : s.busy = true)
    (hd : s.due = true) : step s = afterEdge (runLatched s) := by
  simp [step, risingEdge, h, hv, hb, hd]

/-- An edge between acceptance and presentation. -/
theorem step_wait {s : State} (h : s.pins.rst = false) (hv : s.rspValid = false) (hb : s.busy = true)
    (hd : s.due = false) : step s = .next (hostDrives (waitEdge s)) := by
  simp [step, risingEdge, h, hv, hb, hd]

/-- The accepting edge. -/
theorem step_accept {s : State} (h : s.pins.rst = false) (hv : s.rspValid = false) (hb : s.busy = false)
    (hq : s.pins.reqValid = true) : step s = .next (hostDrives (acceptEdge s)) := by
  simp [step, risingEdge, h, hv, hb, hq]

/-- An idle edge. -/
theorem step_idle {s : State} (h : s.pins.rst = false) (hv : s.rspValid = false) (hb : s.busy = false)
    (hq : s.pins.reqValid = false) : step s = .next (hostDrives (idleEdge s)) := by
  simp [step, risingEdge, h, hv, hb, hq]

/-- Everything a step that answers a next state can have done. -/
theorem step_cases {s t : State} (h : step s = .next t) :
    (s.pins.rst = true ∧ t = hostDrives (resetEdge s)) ∨
    (s.pins.rst = false ∧ s.rspValid = true ∧ s.pins.rspReady = true ∧ t = hostDrives (takeEdge s)) ∨
    (s.pins.rst = false ∧ s.rspValid = true ∧ s.pins.rspReady = false ∧ t = hostDrives s) ∨
    (s.pins.rst = false ∧ s.rspValid = false ∧ s.busy = true ∧ s.due = true ∧
      ∃ u, runLatched s = .next u ∧ t = hostDrives u) ∨
    (s.pins.rst = false ∧ s.rspValid = false ∧ s.busy = true ∧ s.due = false ∧ t = hostDrives (waitEdge s)) ∨
    (s.pins.rst = false ∧ s.rspValid = false ∧ s.busy = false ∧ s.pins.reqValid = true ∧
      t = hostDrives (acceptEdge s)) ∨
    (s.pins.rst = false ∧ s.rspValid = false ∧ s.busy = false ∧ s.pins.reqValid = false ∧
      t = hostDrives (idleEdge s)) := by
  cases hr : s.pins.rst with
  | true => rw [step_reset hr] at h; cases h; simp
  | false =>
    cases hv : s.rspValid with
    | true =>
      cases hy : s.pins.rspReady with
      | true => rw [step_take hr hv hy] at h; cases h; simp
      | false => rw [step_hold hr hv hy] at h; cases h; simp
    | false =>
      cases hb : s.busy with
      | true =>
        cases hd : s.due with
        | true =>
          rw [step_run hr hv hb hd] at h
          cases hu : runLatched s with
          | next u => rw [hu] at h; cases h; simp
          | fault r => rw [hu] at h; cases h
          | refused r => rw [hu] at h; cases h
        | false => rw [step_wait hr hv hb hd] at h; cases h; simp
      | false =>
        cases hq : s.pins.reqValid with
        | true => rw [step_accept hr hv hb hq] at h; cases h; simp
        | false => rw [step_idle hr hv hb hq] at h; cases h; simp

/-- What the length check can do (42_encode R190). -/
theorem lengthChecked_cases (arity len : Nat) (enc : Outcome State Fault Refusal) (s : State) :
    (len < arity ∧ lengthChecked arity len enc s = .next (raise .invalidArgument s)) ∨
    (arity ≤ len ∧ lengthChecked arity len enc s = enc) := by
  rcases Nat.lt_or_ge len arity with h | h
  · exact .inl ⟨h, by simp [lengthChecked, h]⟩
  · exact .inr ⟨h, by simp [lengthChecked, Nat.not_lt.mpr h]⟩

/-- What running the latched command word can do: an instruction, or an illegal word raised (30_encoding R71). -/
theorem runLatched_cases (s : State) :
    (∃ i, decode s.latch.cmd = .ok i ∧ runLatched s = exec i s) ∨
    (∃ e, decode s.latch.cmd = .error e ∧ runLatched s = .next (raise .illegalCommand s)) := by
  unfold runLatched
  cases h : decode s.latch.cmd with
  | ok i => exact .inl ⟨i, rfl, rfl⟩
  | error e => exact .inr ⟨e, rfl, rfl⟩

end Sys2Proof.Machine
end

