-- ==== Sys2Proof/Tests/Slice0.lean ====
section
/-!
SUPPORT. Tests of the model's own author. The expected values are the spec's: the opcode table's words (30_encoding R65,
spec/opcode_table.json) and the vectors of 95_test_vectors. After the tests, for every obligation with hypotheses a concrete
state and operands that meet them (`witness_<name of the obligation>`).
-/

namespace Sys2Proof.Tests

open Sys2Proof.Machine
open Host (Outcome)

-- One after the other: many kernel evaluations at once start more threads than the memory limit of the check admits.
set_option Elab.async false

/-! ### Well-formedness -/

/-- A count of 8 does not fit the 3-bit field (30_encoding R63). -/
theorem test_wellFormed_refuses_len_8 : Instr.wellFormed (.encsByte4 8) = false := by decide

/-- Counts 0 to 7 fit (30_encoding R63). -/
theorem test_wellFormed_admits_len_0_to_7 :
    (List.range 8).all (fun n => Instr.wellFormed (.encsHalf4 n)) = true := by decide

/-! ### Decoding: the word of every row, written out (30_encoding R65, R66; spec/opcode_table.json) -/

/-- Every word of the list decodes to the instruction beside it. -/
def decodesAll (rows : List (Cmd × Instr)) : Bool :=
  rows.all (fun r => match decode r.1 with
    | .ok i => i == r.2
    | .error _ => false)

/-- The word is refused for this reason. -/
def rejects (w : Cmd) (e : Reject) : Bool :=
  match decode w with
  | .ok _ => false
  | .error r => r == e

theorem test_decode_fromp : decodesAll [
    (0x0001, .frompUByte2), (0x0011, .frompUByte4), (0x0021, .frompUShort2), (0x0031, .frompUShort4),
    (0x0041, .frompByte2), (0x0051, .frompByte4), (0x0061, .frompShort2), (0x0071, .frompShort4),
    (0x0081, .frompUByte2N), (0x0091, .frompUByte4N), (0x00A1, .frompUShort2N), (0x00B1, .frompUShort4N),
    (0x00C1, .frompByte2N), (0x00D1, .frompByte4N), (0x00E1, .frompShort2N), (0x00F1, .frompShort4N),
    (0x0121, .frompHalf2), (0x0131, .frompHalf4)] = true := by decide +kernel

theorem test_decode_pack : decodesAll [
    (0x0002, .packUByte2), (0x0012, .packUByte4), (0x0022, .packUShort2), (0x0032, .packUShort4),
    (0x0042, .packByte2), (0x0052, .packByte4), (0x0062, .packShort2), (0x0072, .packShort4),
    (0x0082, .packUByte2N), (0x0092, .packUByte4N), (0x00A2, .packUShort2N), (0x00B2, .packUShort4N),
    (0x00C2, .packByte2N), (0x00D2, .packByte4N), (0x00E2, .packShort2N), (0x00F2, .packShort4N),
    (0x0122, .packHalf2), (0x0132, .packHalf4)] = true := by decide +kernel

theorem test_decode_unpack : decodesAll [
    (0x0003, .unpackUByte2), (0x0013, .unpackUByte4), (0x0023, .unpackUShort2), (0x0033, .unpackUShort4),
    (0x0043, .unpackByte2), (0x0053, .unpackByte4), (0x0063, .unpackShort2), (0x0073, .unpackShort4),
    (0x0083, .unpackUByte2N), (0x0093, .unpackUByte4N), (0x00A3, .unpackUShort2N), (0x00B3, .unpackUShort4N),
    (0x00C3, .unpackByte2N), (0x00D3, .unpackByte4N), (0x00E3, .unpackShort2N), (0x00F3, .unpackShort4N),
    (0x0123, .unpackHalf2), (0x0133, .unpackHalf4)] = true := by decide +kernel

theorem test_decode_enc : decodesAll [
    (0x0004, .encUByte2), (0x0014, .encUByte4), (0x0024, .encUShort2), (0x0034, .encUShort4),
    (0x0044, .encByte2), (0x0054, .encByte4), (0x0064, .encShort2), (0x0074, .encShort4),
    (0x0084, .encUByte2N), (0x0094, .encUByte4N), (0x00A4, .encUShort2N), (0x00B4, .encUShort4N),
    (0x00C4, .encByte2N), (0x00D4, .encByte4N), (0x00E4, .encShort2N), (0x00F4, .encShort4N),
    (0x0124, .encHalf2), (0x0134, .encHalf4)] = true := by decide +kernel

theorem test_decode_encs : decodesAll [
    (0x0005, .encsUByte2 0), (0x0215, .encsUByte4 1), (0x0425, .encsUShort2 2), (0x0635, .encsUShort4 3),
    (0x0845, .encsByte2 4), (0x0A55, .encsByte4 5), (0x0C65, .encsShort2 6), (0x0E75, .encsShort4 7),
    (0x0085, .encsUByte2N 0), (0x0295, .encsUByte4N 1), (0x04A5, .encsUShort2N 2), (0x06B5, .encsUShort4N 3),
    (0x08C5, .encsByte2N 4), (0x0AD5, .encsByte4N 5), (0x0CE5, .encsShort2N 6), (0x0EF5, .encsShort4N 7),
    (0x0125, .encsHalf2 0), (0x0335, .encsHalf4 1)] = true := by decide +kernel

theorem test_decode_dec : decodesAll [
    (0x0006, .decUByte2), (0x0016, .decUByte4), (0x0026, .decUShort2), (0x0036, .decUShort4),
    (0x0046, .decByte2), (0x0056, .decByte4), (0x0066, .decShort2), (0x0076, .decShort4),
    (0x0086, .decUByte2N), (0x0096, .decUByte4N), (0x00A6, .decUShort2N), (0x00B6, .decUShort4N),
    (0x00C6, .decByte2N), (0x00D6, .decByte4N), (0x00E6, .decShort2N), (0x00F6, .decShort4N),
    (0x0126, .decHalf2), (0x0136, .decHalf4)] = true := by decide +kernel

theorem test_decode_cmpeq : decodesAll [
    (0x0007, .cmpeqUByte2), (0x0017, .cmpeqUByte4), (0x0027, .cmpeqUShort2), (0x0037, .cmpeqUShort4),
    (0x0047, .cmpeqByte2), (0x0057, .cmpeqByte4), (0x0067, .cmpeqShort2), (0x0077, .cmpeqShort4),
    (0x0087, .cmpeqUByte2N), (0x0097, .cmpeqUByte4N), (0x00A7, .cmpeqUShort2N), (0x00B7, .cmpeqUShort4N),
    (0x00C7, .cmpeqByte2N), (0x00D7, .cmpeqByte4N), (0x00E7, .cmpeqShort2N), (0x00F7, .cmpeqShort4N),
    (0x0127, .cmpeqHalf2), (0x0137, .cmpeqHalf4)] = true := by decide +kernel

theorem test_decode_vclamp : decodesAll [
    (0x0008, .vclamp2), (0x0018, .vclamp4)] = true := by decide +kernel

theorem test_decode_vround : decodesAll [
    (0x0009, .vround2), (0x0019, .vround4)] = true := by decide +kernel

theorem test_decode_vtrunc : decodesAll [
    (0x000A, .vtrunc2), (0x001A, .vtrunc4)] = true := by decide +kernel

theorem test_decode_vsat : decodesAll [
    (0x000B, .vsat2), (0x001B, .vsat4)] = true := by decide +kernel

theorem test_decode_vmadd : decodesAll [
    (0x000C, .vmadd2), (0x001C, .vmadd4)] = true := by decide +kernel

/-- Every `LEN` of one ENCS row (30_encoding R63): bits 11 to 9 of the word. -/
theorem test_decode_encs_every_length : decodesAll [
    (0x0055, .encsByte4 0), (0x0255, .encsByte4 1), (0x0455, .encsByte4 2), (0x0655, .encsByte4 3),
    (0x0855, .encsByte4 4), (0x0A55, .encsByte4 5), (0x0C55, .encsByte4 6), (0x0E55, .encsByte4 7)] = true := by
  decide +kernel

/-- The five conditions of 30_encoding R71, with the words of 95_test_vectors section 2.1. -/
theorem test_decode_rejects_by_name :
    rejects 0x1054 .reservedBits ∧ rejects 0x8001 .reservedBits ∧ rejects 0xFFFF .reservedBits ∧
    rejects 0x0000 .reservedOp ∧ rejects 0x000D .reservedOp ∧ rejects 0x000E .reservedOp ∧ rejects 0x000F .reservedOp ∧
    rejects 0x0101 .reservedFormat ∧ rejects 0x0111 .reservedFormat ∧ rejects 0x0141 .reservedFormat ∧
    rejects 0x01F6 .reservedFormat ∧ rejects 0x0105 .reservedFormat ∧ rejects 0x0028 .helperFormat ∧
    rejects 0x0254 .lengthNotZero ∧ rejects 0x0208 .lengthNotZero := by decide +kernel

/-- The table's numbering of a word, and a word with a bit above bit 15. -/
theorem test_decodeTableWord : decodeTableWord 16 0x0054 = some .encByte4 ∧ decodeTableWord 16 0x1054 = none ∧
    decodeTableWord 24 0x10054 = none := by decide +kernel

/-! ### One step per command: the response the spec's vectors give -/

/-- A bus of four lanes, lane 0 first. -/
def bus (l0 l1 l2 l3 : Lane) : Bus := l3 ++ l2 ++ l1 ++ l0

/-- The reset state with a request waiting for its answer. -/
def waiting (cmd : Nat) (a b c : Bus) : State :=
  State.withFetchWord { State.reset with latch := { cmd := 0, a := a, b := b, c := c } } 16 cmd

/-- The step of the request answers with this status and result. -/
def answers (cmd : Nat) (a b c : Bus) (status : StatusCode) (r : Bus) : Bool :=
  match step (waiting cmd a b c) with
  | .next t => t.rspValid && t.rspStatus == status && t.rspData == r
  | .fault _ => false
  | .refused _ => false

/-- Every row (word, `A`, result) is answered `OK` with the result. -/
def answersAll (rows : List (Nat × Bus × Bus)) : Bool := rows.all (fun r => answers r.1 r.2.1 0 0 0 r.2.2)

/-- 95_test_vectors section 2.3: bits above `W` are ignored. -/
theorem test_step_fromp : answersAll [
    (0x0041, 0xFFFFFFFFFFFFFFFFFFFFFFFFFFFF1234, 0x1234),
    (0x0071, 0x0123456789ABCDEF, 0x0123456789ABCDEF),
    (0x0121, 0xFFFFFFFF, 0xFFFFFFFF)] = true := by decide +kernel

/-- 95_test_vectors sections 1 (E1, E2) and 2.3. -/
theorem test_step_pack : answersAll [
    (0x0062, bus 0x000000FA 0x000001C2 0 0, 0x01C200FA),
    (0x0052, bus 0x0000007D 0xFFFFFF83 0x00000064 0xFFFFFFFB, 0xFB64837D),
    (0x0012, bus 256 300 0xFFFFFFFF 255, 0xFFFF2C00),
    (0x0042, bus 1 2 0xFFFFFFFF 0xFFFFFFFF, 0x0201),
    (0x0032, bus 65536 65537 0x12345678 0xFFFFFFFF, 0xFFFF567800010000)] = true := by decide +kernel

/-- 95_test_vectors section 2.3: sign extension in the signed formats, zero extension in the others. -/
theorem test_step_unpack : answersAll [
    (0x0053, 0xFB64837D, bus 0x0000007D 0xFFFFFF83 0x00000064 0xFFFFFFFB),
    (0x0013, 0xFB64837D, bus 0x0000007D 0x00000083 0x00000064 0x000000FB),
    (0x0063, 0x8000FFFF, bus 0xFFFFFFFF 0xFFFF8000 0 0),
    (0x0123, 0xC0003C00, bus 0x00003C00 0x0000C000 0 0),
    (0x0073, 0x8000000100007FFF, bus 0x00007FFF 0 1 0xFFFF8000)] = true := by decide +kernel

/-- 95_test_vectors section 2.3: bitwise, on the low `W` bits only. -/
theorem test_step_cmpeq :
    answers 0x0067 0x01C200FA 0x01C200FA 0 0 1 ∧ answers 0x0067 0x01C200FA 0x01C200FB 0 0 0 ∧
    answers 0x0047 0x1234 0xFFFF1234 0 0 1 ∧ answers 0x0057 0x1234 0xFFFF1234 0 0 0 ∧
    answers 0x0127 0x00000000 0x00008000 0 0 0 := by decide +kernel

/-- 95_test_vectors section 2.4, one row per format. -/
theorem test_step_enc : answersAll [
    (0x0004, bus 0x437E8000 0x43960000 0 0, 0xFFFE),
    (0x0014, bus 0x437E8000 0x43960000 0xC0400000 0x3F000000, 0x0000FFFE),
    (0x0024, bus 0x477FFE80 0x7149F2CA 0 0, 0xFFFFFFFE),
    (0x0034, bus 0x477FFE80 0x7149F2CA 0x80000000 0x40200000, 0x00020000FFFFFFFE),
    (0x0044, bus 0x42FF0000 0xC47A0000 0 0, 0x817F),
    (0x0054, bus 0x42FA0000 0xC2FA0000 0x42C80000 0xC0A00000, 0xFB64837D),
    (0x0064, bus 0x437A0000 0x43E10000 0 0, 0x01C200FA),
    (0x0074, bus 0x46FFFF00 0xC71C4000 0xBF000000 0x3FC00000, 0x0002000080017FFF),
    (0x0084, bus 0x3F000000 0x3E800000 0 0, 0x4080),
    (0x0094, bus 0x00000000 0x3F800000 0x3F000000 0x3E800000, 0x4080FF00),
    (0x00A4, bus 0x3F000000 0x40000000 0 0, 0xFFFF8000),
    (0x00B4, bus 0x3F000000 0x40000000 0xBF800000 0x3DCCCCCD, 0x199A0000FFFF8000),
    (0x00C4, bus 0x3F000000 0xBF000000 0 0, 0xC040),
    (0x00D4, bus 0x3F800000 0xBF800000 0x3F000000 0xBF000000, 0xC040817F),
    (0x00E4, bus 0x3F000000 0xC0000000 0 0, 0x80014000),
    (0x00F4, bus 0x3F800000 0xBF800000 0x3F000000 0x3E800000, 0x2000400080017FFF),
    (0x0124, bus 0x3F800000 0xC0000000 0 0, 0xC0003C00),
    (0x0134, bus 0x3F800000 0xC0000000 0x477FF000 0x322BCC77, 0x00007C00C0003C00)] = true := by decide +kernel

/-- 95_test_vectors section 2.4, second set: NaN, infinities and -0.0. -/
theorem test_step_enc_special : answersAll [
    (0x0004, bus 0x7FC00000 0x7F800000 0 0, 0xFF00),
    (0x0014, bus 0x7FC00000 0x7F800000 0xFF800000 0x80000000, 0x0000FF00),
    (0x0024, bus 0x7FC00000 0x7F800000 0 0, 0xFFFF0000),
    (0x0034, bus 0x7FC00000 0x7F800000 0xFF800000 0x80000000, 0x00000000FFFF0000),
    (0x0044, bus 0x7FC00000 0x7F800000 0 0, 0x7F81),
    (0x0054, bus 0x7FC00000 0x7F800000 0xFF800000 0x80000000, 0x00817F81),
    (0x0064, bus 0x7FC00000 0x7F800000 0 0, 0x7FFF8001),
    (0x0074, bus 0x7FC00000 0x7F800000 0xFF800000 0x80000000, 0x000080017FFF8001),
    (0x0084, bus 0x7FC00000 0x7F800000 0 0, 0xFF00),
    (0x0094, bus 0x7FC00000 0x7F800000 0xFF800000 0x80000000, 0x0000FF00),
    (0x00A4, bus 0x7FC00000 0x7F800000 0 0, 0xFFFF0000),
    (0x00B4, bus 0x7FC00000 0x7F800000 0xFF800000 0x80000000, 0x00000000FFFF0000),
    (0x00C4, bus 0x7FC00000 0x7F800000 0 0, 0x7F81),
    (0x00D4, bus 0x7FC00000 0x7F800000 0xFF800000 0x80000000, 0x00817F81),
    (0x00E4, bus 0x7FC00000 0x7F800000 0 0, 0x7FFF8001),
    (0x00F4, bus 0x7FC00000 0x7F800000 0xFF800000 0x80000000, 0x000080017FFF8001),
    (0x0124, bus 0x7FC00000 0x7F800000 0 0, 0x7C007E00),
    (0x0134, bus 0x7FC00000 0x7F800000 0xFF800000 0x80000000, 0x8000FC007C007E00)] = true := by decide +kernel

/-- 95_test_vectors section 2.6: the length check does not look at the lanes and ignores lanes beyond the arity. -/
theorem test_step_encs :
    answers 0x0655 (bus 0x42FA0000 0xC2FA0000 0x42C80000 0xC0A00000) 0 0 1 0 ∧
    answers 0x0855 (bus 0x42FA0000 0xC2FA0000 0x42C80000 0xC0A00000) 0 0 0 0xFB64837D ∧
    answers 0x0265 (bus 0x437A0000 0x43E10000 0 0) 0 0 1 0 ∧
    answers 0x0A65 (bus 0x437A0000 0x43E10000 0x7FC00000 0x7F800000) 0 0 0 0x01C200FA ∧
    answers 0x06B5 (bus 0x7FC00000 0x7FC00000 0x7FC00000 0x7FC00000) 0 0 1 0 ∧
    answers 0x08B5 (bus 0x7FC00000 0x7FC00000 0x7FC00000 0x7FC00000) 0 0 0 0 := by decide +kernel

/-- 95_test_vectors section 2.7, one row per format. -/
theorem test_step_dec : answersAll [
    (0x0006, 0xFF01, bus 0x3F800000 0x437F0000 0 0),
    (0x0016, 0xFF800100, bus 0x00000000 0x3F800000 0x43000000 0x437F0000),
    (0x0026, 0xFFFF0001, bus 0x3F800000 0x477FFF00 0 0),
    (0x0036, 0xFFFF800000010000, bus 0x00000000 0x3F800000 0x47000000 0x477FFF00),
    (0x0046, 0x807F, bus 0x42FE0000 0xC3000000 0 0),
    (0x0056, 0xFB64837D, bus 0x42FA0000 0xC2FA0000 0x42C80000 0xC0A00000),
    (0x0066, 0x01C200FA, bus 0x437A0000 0x43E10000 0 0),
    (0x0076, 0x80007FFFFFFF0001, bus 0x3F800000 0xBF800000 0x46FFFE00 0xC7000000),
    (0x0086, 0xFF80, bus 0x3F008081 0x3F800000 0 0),
    (0x0096, 0x4080FF00, bus 0x00000000 0x3F800000 0x3F008081 0x3E808081),
    (0x00A6, 0xFFFF8000, bus 0x3F000080 0x3F800000 0 0),
    (0x00B6, 0x199A0000FFFF8000, bus 0x3F000080 0x3F800000 0x00000000 0x3DCCD0CD),
    (0x00C6, 0xC040, bus 0x3F010204 0xBF010204 0 0),
    (0x00D6, 0x80817F40, bus 0x3F010204 0x3F800000 0xBF800000 0xBF800000),
    (0x00E6, 0x80014000, bus 0x3F000100 0xBF800000 0 0),
    (0x00F6, 0x8000800140000001, bus 0x38000100 0x3F000100 0xBF800000 0xBF800000),
    (0x0126, 0xC0003C00, bus 0x3F800000 0xC0000000 0 0),
    (0x0136, 0x7C0000017BFF3555, bus 0x3EAAA000 0x477FE000 0x33800000 0x7F800000)] = true := by decide +kernel

/-- 95_test_vectors section 2.2: ties to even, signed zeros, a quiet NaN. -/
theorem test_step_vround : answersAll [
    (0x0019, bus 0x3F000000 0x3FC00000 0xBF000000 0xC0200000, bus 0 0x40000000 0x80000000 0xC0000000),
    (0x0009, bus 0x4AFFFFFF 0x7F800001 1 1, bus 0x4B000000 0x7FC00000 0 0)] = true := by decide +kernel

/-- 95_test_vectors section 2.2: toward zero. -/
theorem test_step_vtrunc : answersAll [
    (0x001A, bus 0x3F19999A 0xC039999A 0xBECCCCCD 0x4AFFFFFF, bus 0 0xC0000000 0x80000000 0x4AFFFFFE),
    (0x000A, bus 0xFF800000 0x7F7FFFFF 1 1, bus 0xFF800000 0x7F7FFFFF 0 0)] = true := by decide +kernel

/-- 95_test_vectors section 2.2: -0.0 and NaN give +0.0, a subnormal is kept. -/
theorem test_step_vsat : answersAll [
    (0x001B, bus 0x80000000 0x7FC00000 0x00000001 0x3FC00000, bus 0 0 0x00000001 0x3F800000),
    (0x000B, bus 0xFF800000 0x3E800000 0x3F800000 0x3F800000, bus 0 0x3E800000 0 0)] = true := by decide +kernel

/-- 95_test_vectors section 2.2: below, a NaN, bounds in reverse order, a NaN bound. -/
theorem test_step_vclamp :
    answers 0x0018 (bus 0xC0A00000 0x7FC00000 0x40400000 0x40000000) (bus 0xBF800000 0xBF800000 0x40A00000 0x7FC00000)
      (bus 0x3F800000 0x3F800000 0x3F800000 0x40400000) 0 (bus 0xBF800000 0xBF800000 0x3F800000 0x40400000) ∧
    answers 0x0008 (bus 0x00000000 0x40000000 1 1) (bus 0x80000000 0 0 0) (bus 0x3F800000 0x7FC00000 1 1) 0
      (bus 0x80000000 0x7FC00000 0 0) := by decide +kernel

/-- 95_test_vectors section 2.2: two roundings, an overflow, an invalid product, a tie. -/
theorem test_step_vmadd :
    answers 0x001C (bus 0x3F800001 0x7F61B1E6 0x00000000 0x4B800001) (bus 0x3F800001 0x41200000 0x7F800000 0x3F800000)
      (bus 0xBF800000 0x3F000000 0x3F800000 0x3F800000) 0 (bus 0x34800000 0x7F800000 0x7FC00000 0x4B800002) ∧
    answers 0x000C (bus 0xBF800000 0xBF800000 1 1) (bus 0 0 1 1) (bus 0 0x80000000 1 1) 0
      (bus 0 0x80000000 0 0) := by decide +kernel

/-- An illegal word answers `ILLEGAL_COMMAND`, and it wins over a short length (95_test_vectors section 5, P3). -/
theorem test_step_illegal :
    answers 0x0254 0x3F800000 0 0 2 0 ∧ answers 0x0105 0x3F800000 0 0 2 0 ∧ answers 0x0000 0 0 0 2 0 := by
  decide +kernel

/-! ### Lane functions at the corners of 95_test_vectors section 2.5 and 2.7 -/

/-- The rounded sum of EncUNorm reaches 1.0 (`0x3B008080`); ties go up, not to even. -/
theorem test_encUNorm : encUNorm 8 0x3B008080 = 0x01 ∧ encUNorm 8 0x3B00807F = 0x00 ∧ encUNorm 16 0x37000080 = 1 ∧
    encUNorm 16 0x3700007F = 0 := by decide +kernel

/-- Ties of EncSNorm go to even. -/
theorem test_encSNorm : encSNorm 8 0x3B810204 = 0x00 ∧ encSNorm 8 0x3B810205 = 0x01 ∧ encSNorm 8 0x3C418306 = 0x02 ∧
    encSNorm 16 0xC0000000 = 0x8001 := by decide +kernel

/-- The clamp comes before the rounding. -/
theorem test_encRaw : encRawSigned 8 0x42FF0000 = 0x7F ∧ encRawSigned 16 0x42FF0000 = 0x0080 ∧
    encRawUnsigned 8 0x437F8000 = 0xFF ∧ encRawUnsigned 8 0x40200000 = 0x02 := by decide +kernel

/-- Overflow at 65520, the smallest subnormal, and the payload of a NaN. -/
theorem test_encHalf : encHalf 0x477FF000 = 0x7C00 ∧ encHalf 0x322BCC77 = 0x0000 ∧ encHalf 0xB22BCC77 = 0x8000 ∧
    encHalf 0x3DCCCCCD = 0x2E66 ∧ encHalf 0x7FC00000 = 0x7E00 := by decide +kernel

/-- The most negative field of a signed normalized format is exactly -1.0 (95_test_vectors E4). -/
theorem test_decSNorm : decSNorm 16 0x8000 = 0xBF800000 ∧ decSNorm 8 0x80 = 0xBF800000 ∧ decSNorm 8 0x40 = 0x3F010204 := by
  decide +kernel

/-- A subnormal half, the largest finite half, and an infinity. -/
theorem test_decHalf : decHalf 0x0001 = 0x33800000 ∧ decHalf 0x7BFF = 0x477FE000 ∧ decHalf 0x7C00 = 0x7F800000 := by
  decide +kernel

/-! ### The host's side of the block -/

/-- 95_test_vectors E6. -/
theorem test_renderHex : renderHex .uByte4 0 = "00000000" ∧ renderHex .byte2 0x00FA = "00FA" ∧
    renderHex .byte4 0xFB64837D = "FB64837D" ∧ renderHex .short4 0x0002000080017FFF = "0002000080017FFF" := by
  decide +kernel

/-- 30_encoding R75: the text of three commands; another spelling is no command. -/
theorem test_assemble : assemble "ENCS.Byte4 len=3 ; short" = some 0x0655 ∧ assemble "VCLAMP.4" = some 0x0018 ∧
    assemble "DEC.Short2N" = some 0x00E6 ∧ assemble "dec.short2n" = none := by decide +kernel

/-- 20_memory R42: a big-endian host reverses the bytes of the whole integer. -/
theorem test_hostBytes : hostBytes .little .byte4 0xFB64837D = [0x7D, 0x83, 0x64, 0xFB] ∧
    hostBytes .big .short2 0x01C200FA = [0x01, 0xC2, 0x00, 0xFA] := by decide +kernel

/-! ### The protocol, edge by edge (95_test_vectors section 5, the signal-level view of P1 step 1) -/

/-- A property of the next state of a step. -/
def nextHas (s : State) (p : State → Bool) : Bool :=
  match step s with
  | .next t => p t
  | .fault _ => false
  | .refused _ => false

/-- The request of P1 step 1. -/
def p1 : Request := { cmd := 0x0052, a := bus 0x0000007D 0xFFFFFF83 0x00000064 0xFFFFFFFB, b := 0, c := 0 }

/-- The block idle, the host presenting `p1` and ready to take a response. -/
def presenting : State := { State.reset with pins := { rst := false, reqValid := true, req := p1, rspReady := true } }

/-- The block with `p1` accepted, one edge before its answer. -/
def accepted : State := { presenting with busy := true, latch := p1 }

/-- The block with the answer to `p1` presented. -/
def presented : State := { accepted with rspValid := true, rspStatus := 0, rspData := 0xFB64837D }

/-- Edge 1 of the view: accepted, so `req_ready = 0`. -/
theorem test_edge_accepts : nextHas presenting (fun t => t.busy && t.latch == p1 && !t.rspValid && !t.reqReady) := by
  decide +kernel

/-- Edge 2 of the view: presented. -/
theorem test_edge_presents : nextHas accepted (fun t => t == presented) := by decide +kernel

/-- Edge 3 of the view: taken, and the block is ready again. -/
theorem test_edge_takes : nextHas presented (fun t =>
    t.reqReady && !t.rspValid && t.taken == [{ status := 0, data := 0xFB64837D }]) := by decide +kernel

/-- A response is held while the host is not ready (70_reset_and_hazards R274). -/
theorem test_edge_holds : nextHas { presented with pins := Pins.quiet } (fun t =>
    t == { presented with pins := Pins.quiet }) := by decide +kernel

/-- A reset edge withdraws a response (70_reset_and_hazards R271). -/
theorem test_edge_reset_drops : nextHas { presented with pins := { presented.pins with rst := true } } (fun t =>
    t.reqReady && !t.rspValid && t.taken == []) := by decide +kernel

/-- With `LATENCY = 2` the edge after acceptance only waits (70_reset_and_hazards R277). -/
theorem test_edge_waits : nextHas { accepted with latency := 2 } (fun t =>
    t.busy && !t.rspValid && t.elapsed == 1 && t.latch == p1) := by decide +kernel

/-- From reset with nothing placed, an edge leaves the block idle (assumption log 12). -/
theorem test_edge_from_reset_is_idle : nextHas State.reset (fun t => t.reqReady && !t.rspValid) := by decide +kernel

/-! ### Witnesses: for every obligation with hypotheses, a state and operands that meet them -/

theorem witness_DecodeOfEncodeIsTheInstruction :
    Instr.wellFormed (.encsHalf4 0) = true ∧ Instr.wellFormed (.encsHalf4 7) = true := by decide

theorem witness_EncodeOfDecodeIsTheWord : decode 0x0E55 = .ok (.encsByte4 7) := by decide +kernel

/-- The host's levels that present nothing. -/
def quiet : Pins := Pins.quiet

/-- The first three conditions of 30_encoding R71 at the boundaries of their ranges. -/
theorem witness_illegal_words :
    IllegalWord 0x1054 ∧ IllegalWord 0x0000 ∧ IllegalWord 0x000D ∧ IllegalWord 0x0101 ∧
    IllegalWord 0x0111 ∧ IllegalWord 0x0141 ∧ IllegalWord 0x01F7 := by
  refine ⟨?_, ?_, ?_, ?_, ?_, ?_, ?_⟩ <;> (unfold IllegalWord IllegalFields; decide)

/-- The last two conditions likewise. -/
theorem witness_illegal_helper_and_length_words :
    IllegalWord 0x0028 ∧ IllegalWord 0x0254 ∧ IllegalWord 0x020C := by
  refine ⟨?_, ?_, ?_⟩ <;> (unfold IllegalWord IllegalFields; decide)

/-- Legal words at the same boundaries. -/
theorem witness_legal_words :
    ¬IllegalWord 0x0001 ∧ ¬IllegalWord 0x00F7 ∧ ¬IllegalWord 0x0127 ∧
    ¬IllegalWord 0x0137 ∧ ¬IllegalWord 0x0018 ∧ ¬IllegalWord 0x0E55 := by
  refine ⟨?_, ?_, ?_, ?_, ?_, ?_⟩ <;> (unfold IllegalWord IllegalFields; decide)

/-- The latency is reached exactly at this edge. -/
theorem witness_IllegalWordsAnswerIllegalCommand :
    let s := waiting 0x0105 0 0 0
    let t := waiting 0x0134 0 0 0
    (s.pins.rst = false ∧ s.rspValid = false ∧ s.busy = true ∧ s.latency = s.elapsed + 1 ∧ IllegalWord s.latch.cmd) ∧
    t.pins.rst = false ∧ t.rspValid = false ∧ t.busy = true ∧ t.latency = t.elapsed + 1 ∧ ¬IllegalWord t.latch.cmd := by
  unfold IllegalWord IllegalFields
  decide +kernel

theorem witness_StepRunsTheDecodedInstruction :
    accepted.pins.rst = false ∧ accepted.rspValid = false ∧ accepted.busy = true ∧
      accepted.latency ≤ accepted.elapsed + 1 ∧ decode accepted.latch.cmd = .ok .packByte4 := by decide +kernel

/-- The two states differ in every operand bit outside `P(A)`, resp. outside the lanes named. -/
theorem witness_UnnamedOperandBitsHaveNoEffect :
    ((0x1234 : Bus).toNat % 2 ^ Format.byte2.width = (0xFFFF1234 : Bus).toNat % 2 ^ Format.byte2.width) ∧
    (∀ i, i < Format.byte2.arity → (lane (bus 0x001 0x002 0 0) i).toNat % 2 ^ Format.byte2.bits =
      (lane (bus 0xF01 0xF02 9 9) i).toNat % 2 ^ Format.byte2.bits) ∧
    (∀ i, i < Format.half2.arity → lane (bus 1 2 0 0) i = lane (bus 1 2 9 9) i) ∧
    ∀ i, i < Lanes.two.count → lane (bus 1 2 0 0) i = lane (bus 1 2 9 9) i := by decide +kernel

theorem witness_StatusOfEveryInstruction :
    (∃ t, exec (.encsByte4 3) accepted = .next t ∧ t.rspStatus = 1) ∧
    ∃ t, exec (.encsByte4 4) accepted = .next t ∧ t.rspStatus = 0 :=
  ⟨⟨_, rfl, rfl⟩, ⟨_, rfl, rfl⟩⟩

/-- The invariant holds in an idle state, in a waiting one and in one with a response presented, and each steps. -/
theorem witness_EveryStepKeepsInv :
    (State.reset.Inv ∧ ∃ t, step State.reset = .next t) ∧ (accepted.Inv ∧ ∃ t, step accepted = .next t) ∧
    presented.Inv ∧ ∃ t, step presented = .next t := by
  refine ⟨⟨?_, _, rfl⟩, ⟨?_, _, rfl⟩, ?_, _, rfl⟩ <;> (unfold State.Inv; decide +kernel)

/-- A presented response with `rst` and `rsp_ready` both high. -/
def resetting : State := { presented with pins := { presented.pins with rst := true } }

theorem witness_ResetEdgeDropsTheTransaction :
    resetting.pins.rst = true ∧ resetting.pins.rspReady = true ∧ resetting.rspValid = true := by decide

theorem witness_ResetForgetsTheStateBefore :
    let t := { resetting with busy := false, rspValid := false, latch := Request.zero, elapsed := 5 }
    resetting.pins = t.pins ∧ resetting.moves = t.moves ∧ resetting.latency = t.latency ∧ resetting.taken = t.taken ∧
      resetting.pins.rst = true ∧ resetting ≠ t := by decide

/-- Two idle states that differ in the latch, and two waiting ones that differ in the response data. -/
theorem witness_StepsKeepSameView :
    (SameView presenting { presenting with latch := p1 } ∧ (∃ t, step presenting = .next t) ∧
      ∃ t, step { presenting with latch := p1 } = .next t) ∧
    SameView accepted { accepted with rspData := 1 } ∧ (∃ t, step accepted = .next t) ∧
      ∃ t, step { accepted with rspData := 1 } = .next t := by
  refine ⟨⟨?_, ⟨_, rfl⟩, _, rfl⟩, ?_, ⟨_, rfl⟩, _, rfl⟩ <;> (unfold SameView; decide)

theorem witness_RequestAcceptedWhenReady :
    presenting.pins.rst = false ∧ presenting.pins.reqValid = true ∧ presenting.busy = false ∧
      presenting.rspValid = false := by decide

theorem witness_NothingAcceptedWithoutAValidRequest :
    State.reset.pins.rst = false ∧ State.reset.pins.reqValid = false ∧ State.reset.busy = false ∧
      State.reset.rspValid = false := by decide

theorem witness_PresentedResponseIsHeld :
    let s := { presented with pins := quiet }
    s.pins.rst = false ∧ s.rspValid = true ∧ s.pins.rspReady = false := by decide

theorem witness_ResponseIsTaken :
    presented.pins.rst = false ∧ presented.rspValid = true ∧ presented.pins.rspReady = true := by decide

/-- Both outcomes: the response is taken, and the request goes on waiting. -/
theorem witness_BusyBlockAcceptsNothing :
    (presented.busy = true ∧ ∃ t, step presented = .next t ∧ t.busy = false) ∧
    accepted.busy = true ∧ ∃ t, step accepted = .next t ∧ t.busy = true :=
  ⟨⟨rfl, _, rfl, rfl⟩, rfl, _, rfl, rfl⟩

theorem witness_OutcomeGrowsOnlyByATakenResponse :
    (∃ t, step presented = .next t ∧ t.taken = [{ status := 0, data := 0xFB64837D }]) ∧
    ∃ t, step resetting = .next t ∧ t.taken = [] := ⟨⟨_, rfl, rfl⟩, _, rfl, rfl⟩

theorem witness_PresentationIgnoresRspReady : accepted.rspValid = false ∧ presenting.rspValid = false := by decide

/-- A latency of 3 with one edge already waited, and the first edge after it samples `rst = 0` too. -/
theorem witness_ResponsePresentedAfterLatency :
    let s := { accepted with latency := 3, elapsed := 1, moves := [presenting.pins, resetting.pins] }
    s.busy = true ∧ s.rspValid = false ∧ max 1 (s.latency - s.elapsed) = 2 ∧
      resetLow (max 1 (s.latency - s.elapsed)) s := by
  unfold resetLow
  decide

/-- Two requests at the smallest latency. -/
theorem witness_RunAnswersEveryRequestInOrder :
    let script := hostScript 1 [p1, Request.zero]
    let s := { State.reset with pins := presenting.pins, moves := script.tail }
    s.busy = false ∧ s.rspValid = false ∧ s.latency = 1 ∧ s.pins :: s.moves = hostScript s.latency (p1 :: [Request.zero]) := by
  decide

/-- A component index, and a lane at the end of each component range. -/
theorem witness_PackAndUnpackAreInverse :
    1 < Format.byte2.arity ∧ Format.byte2.signed = true ∧ Format.uShort2.signed = false ∧
    (lane (bus 0x7F 0xFFFFFF80 0 0) 0).toInt = 2 ^ (Format.byte2.bits - 1) - 1 ∧
    (lane (bus 0x7F 0xFFFFFF80 0 0) 1).toInt = -2 ^ (Format.byte2.bits - 1) ∧
    (lane (bus 0xFFFF 0 0 0) 0).toNat < 2 ^ Format.uShort2.bits := by decide +kernel

/-- The counts on both sides of the arity, at both ends of the field. -/
theorem witness_EncsChecksTheLength :
    0 < Format.byte4.arity ∧ 3 < Format.byte4.arity ∧ Format.byte4.arity ≤ 4 ∧ Format.byte4.arity ≤ 7 ∧
    1 < Format.half2.arity ∧ Format.half2.arity ≤ 2 := by decide

/-- Bounds in order, equal bounds, reversed bounds and NaN bounds, with a value on each side. -/
theorem witness_ClampSelectsAsTheTableSays :
    (flt 0xBF800000 0x3F800000 = true ∧ flt 0xC0A00000 0xBF800000 = true ∧ fgt 0x40A00000 0x3F800000 = true ∧
      fgt 0x3E800000 0xBF800000 = true ∧ flt 0x3E800000 0x3F800000 = true ∧ isNaN 0xFFC00001 = true) ∧
    isNaN 0x3F800000 = false ∧ isZero 0x80000000 = true ∧ isZero 0x00000000 = true ∧ fgt 0x00000001 0 = true ∧
    flt 0x80000001 0 = true ∧ fgt 0x40A00000 0x3F800000 = true ∧ isNaN 0x7F800001 = true ∧ isNaN 0x7F800000 = false := by
  decide +kernel

/-- A value equal to the lower bound, one equal to the upper bound, and a zero strictly between the bounds. -/
theorem witness_clamp_bounds_included :
    (flt 0xBF800000 0xBF800000 = false ∧ fgt 0xBF800000 0x3F800000 = false ∧ isZero 0xBF800000 = false) ∧
    (flt 0x3F800000 0xBF800000 = false ∧ fgt 0x3F800000 0x3F800000 = false ∧ isZero 0x3F800000 = false) ∧
    (flt 0x80000000 0xBF800000 = false ∧ fgt 0x80000000 0x3F800000 = false ∧ isZero 0x80000000 = true) ∧
    isNaN 0xBF800000 = false ∧ isNaN 0x3F800000 = false ∧ isNaN 0x80000000 = false := by decide +kernel

/-- Equal bounds, and a value at the end of an integer range. -/
theorem witness_KernelStaysInRange :
    (isFinite 0x3F800000 = true ∧ value 0x3F800000 ≤ value 0x3F800000) ∧
    isFinite 0x42FF0000 = true ∧ 127 * one ≤ value 0x42FF0000 ∧ value 0x42FF0000 ≤ 128 * one := by decide +kernel

/-- A NaN, an infinity, both zeros, a tie, and the smallest magnitude without a fraction. -/
theorem witness_RoundGivesTheNearestEvenInteger :
    isNaN 0x7F800001 = true ∧ isInf 0xFF800000 = true ∧ isZero 0x80000000 = true ∧ isFinite 0x40200000 = true ∧
    isFinite 0x4B000000 = true ∧ 2 ^ 23 * one ≤ magnitude 0x4B000000 := by decide +kernel

theorem witness_TruncateDropsTheFraction :
    isNaN 0xFF800001 = true ∧ isInf 0x7F800000 = true ∧ isZero 0x00000000 = true ∧ isFinite 0xC039999A = true := by
  decide +kernel

theorem witness_SaturateClampsToUnit :
    flt 0x80000001 0 = true ∧ flt 0xFF800000 0 = true ∧ isZero 0x80000000 = true ∧ isNaN 0x7FC00000 = true ∧
    fgt 0x3F800001 0x3F800000 = true ∧ fgt 0x7F800000 0x3F800000 = true ∧
    fgt 0x00000001 0 = true ∧ fgt 0x3F800000 0x3F800000 = false := by decide +kernel

/-- A NaN, zero times infinity both ways, an overflowing product with a finite bias and with either infinity. -/
theorem witness_MultiplyAddRoundsTwice :
    isNaN 0x7FC00000 = true ∧ isZero 0x00000000 = true ∧ isInf 0x7F800000 = true ∧
    isInf (fmul32 0x7F61B1E6 0x41200000) = true ∧ isFinite 0x3F000000 = true ∧ isInf 0xFF800000 = true ∧
    signBit 0xFF800000 ≠ signBit (fmul32 0x7F61B1E6 0x41200000) ∧ isNaN 0x7F800000 = false ∧
    signBit 0x7F800000 = signBit (fmul32 0x7F61B1E6 0x41200000) := by decide +kernel

/-- A quotient that is no whole number; and the overflow boundary of binary16 rounds to infinity. -/
theorem witness_RoundingIsCorrect :
    (0 < 3 ∧ 1 % 3 ≠ 0) ∧ 0 < 1 ∧ roundMagnitude 10 0x7C00 (4095 * 2 ^ 28) 1 = 0x7C00 ∧
    roundMagnitude 10 0x7C00 (4095 * 2 ^ 28 - 1) 1 = 0x7BFF := by decide +kernel

/-- Zeros, infinities, finite values and a NaN. -/
theorem witness_FmulRoundsTheExactProduct :
    isNaN 0x7FC00000 = true ∧ isInf 0x7F800000 = true ∧ isZero 0x80000000 = true ∧ isNaN 0xBF800000 = false ∧
    isZero 0xBF800000 = false ∧ isFinite 0x7F7FFFFF = true ∧ isFinite 0x00000001 = true := by decide +kernel

/-- A sum of two finite values that is zero, and one that is not. -/
theorem witness_FaddRoundsTheExactSum :
    isNaN 0xFF800001 = true ∧ isInf 0x7F800000 = true ∧ isInf 0xFF800000 = true ∧ isFinite 0x80000000 = true ∧
    value 0x80000000 + value 0x80000000 = 0 ∧ value 0x3F800000 + value 0xBF800000 = 0 ∧
    value 0x7F7FFFFF + value 0x7F7FFFFF ≠ 0 ∧ isFinite 0x7F7FFFFF = true := by decide +kernel

theorem witness_FdivRoundsTheExactQuotient :
    isNaN 0x7FC00000 = true ∧ isInf 0xFF800000 = true ∧ isZero 0x80000000 = true ∧ isFinite 0x3F800000 = true ∧
    isZero 0x3F800000 = false ∧ isFinite 0x00000001 = true ∧ isZero 0x00000001 = false := by decide +kernel

/-- Both ends of the range. -/
theorem witness_IntegersConvertExactly : |(65535 : Int)| ≤ 65535 ∧ |(-65535 : Int)| ≤ 65535 := by decide

/-- A NaN, both infinities, a tie and a value past each end, for both widths. -/
theorem witness_encode_lane_clauses :
    isNaN 0xFFC00001 = true ∧ isFinite 0x42FD0000 = true ∧ isFinite 0xC7000000 = true ∧
    (∃ w : Nat, w = 8 ∨ w = 16) ∧ (-127 : Int) * one ≤ value 0x42FD0000 ∧ value 0x42FD0000 ≤ 127 * one ∧
    value 0xC7000000 < -32767 * one := by
  refine ⟨?_, ?_, ?_, ⟨8, .inl rfl⟩, ?_, ?_, ?_⟩ <;> decide +kernel

theorem witness_EncHalfNarrowsCorrectly :
    isNaN 0xFF802000 = true ∧ signBit 0xFF802000 = true ∧ isInf 0x7F800000 = true ∧ isZero 0x80000000 = true ∧
    isFinite 0x477FF000 = true ∧ isFinite 0x00000001 = true := by decide +kernel

/-- A format of each kind, a NaN, and the largest subnormal of each sign. -/
theorem witness_SpecialLanesEncode :
    Format.byte2.family ≠ .half ∧ Format.half4.family = .half ∧ isNaN 0xFFFFFFFF = true ∧ expField 0x007FFFFF = 0 ∧
    expField 0x807FFFFF = 0 := by decide +kernel

/-- The next lanes above and below the boundaries of a raw and of a normalized format. -/
theorem witness_OutOfRangeLanesEncodeAsTheBoundary :
    Format.byte2.family ≠ .half ∧ fgt 0x42FE0001 (i2f32 (signedScale Format.byte2.bits)) = true ∧
    flt 0xC2FE0001 (i2f32 (-signedScale Format.byte2.bits)) = true ∧ fgt 0x3F800001 0x3F800000 = true ∧
    flt 0xBF800001 0xBF800000 = true ∧ flt 0x80000001 0x00000000 = true := by decide +kernel

/-- The most negative field, the two extreme fields and the largest unsigned one. -/
theorem witness_DecNormIsTheNearestQuotient :
    (0x80 : BitVec 8).toInt = -2 ^ (8 - 1) ∧ (0x7F : BitVec 8).toInt = 2 ^ (8 - 1) - 1 ∧
    (0x8001 : BitVec 16).toInt = -(2 ^ (16 - 1) - 1) ∧ (0x8001 : BitVec 16).toInt ≠ -2 ^ (16 - 1) ∧
    (0xFFFF : BitVec 16).toNat = 2 ^ 16 - 1 := by decide +kernel

/-- The first pattern with exponent 31 and the last without it. -/
theorem witness_DecHalfIsExact :
    (0x7C00 : BitVec 16).toNat / 2 ^ 10 % 2 ^ 5 = 31 ∧ (0x7BFF : BitVec 16).toNat / 2 ^ 10 % 2 ^ 5 ≠ 31 := by decide +kernel

theorem witness_DecodedValuesStayInRange :
    Format.uByte2.family = .rawUnsigned ∧ Format.short4.family = .rawSigned ∧ Format.uShort4N.family = .unsignedNorm ∧
    Format.byte2N.family = .signedNorm ∧ Family.rawUnsigned ≠ .half := by decide

/-- The field of a signed format that does not return, a signalling half NaN, and their neighbours, which return. -/
theorem witness_DecodeThenEncodeReturnsTheField :
    (Format.byte2N.signed = true ∧ (0x80 : BitVec 8).toNat = 2 ^ (Format.byte2N.bits - 1)) ∧
    (Format.half2.family = .half ∧ signallingHalf 0x7C01 ∧ signallingHalf 0xFDFF) ∧
    (0x81 : BitVec 8).toNat ≠ 2 ^ (Format.byte2N.bits - 1) ∧ ¬signallingHalf 0x7C00 ∧ ¬signallingHalf 0x7E00 := by
  unfold signallingHalf
  decide +kernel

theorem witness_RawComponentsRoundTrip :
    1 < Format.uByte2.arity ∧ Format.uByte2.family = .rawUnsigned ∧ (lane (bus 0 255 0 0) 1).toNat < 2 ^ Format.uByte2.bits ∧
    1 < Format.byte2.arity ∧ Format.byte2.family = .rawSigned ∧
    (lane (bus 0 0xFFFFFF80 0 0) 1).toInt = -(2 ^ (Format.byte2.bits - 1) : Int) ∧
    (lane (bus 0 0xFFFFFF80 0 0) 1).toInt < 2 ^ (Format.byte2.bits - 1) := by decide +kernel

/-- Both ends of the valid range of each family, and a subnormal. -/
theorem witness_NormalizedRoundTripWithinOneStep :
    (Format.byte4N.family = .signedNorm ∧ Format.byte4N.signed = true ∧ isFinite 0xBF800000 = true ∧
      value 0xBF800000 = -(one : Int)) ∧
    Format.uShort2N.family = .unsignedNorm ∧ Format.uShort2N.signed = false ∧ isFinite 0x3F800000 = true ∧
    value 0x3F800000 ≤ one ∧ 0 ≤ value 0x80000000 ∧ isFinite 0x80000000 = true := by decide +kernel

theorem witness_HexRenderingReadsBack : 0 < Format.byte2.width / 4 ∧ 15 < Format.short4.width / 4 := by decide

end Sys2Proof.Tests
end

section
/-!
PROOFS. Rounding (00_scope R13): the patterns of a format lie on grids, consecutive patterns are consecutive values, and
`roundMagnitude` picks the nearer of the two patterns around the exact quotient.
-/

namespace Sys2Proof.Machine

/-- A pattern with exponent field 0 is a subnormal: its magnitude is its fraction. -/
theorem patternMagnitude_subnormal {p b : Nat} (hb : b < 2 ^ p) : patternMagnitude p b = b := by
  simp [patternMagnitude, Nat.div_eq_of_lt hb, Nat.mod_eq_of_lt hb]

/-- A pattern with exponent field `e + 1` and fraction `f`. -/
theorem patternMagnitude_normal {p f : Nat} (e : Nat) (hf : f < 2 ^ p) :
    patternMagnitude p ((e + 1) * 2 ^ p + f) = (2 ^ p + f) * 2 ^ e := by
  have hdiv : ((e + 1) * 2 ^ p + f) / 2 ^ p = e + 1 := by
    rw [Nat.add_comm, Nat.add_mul_div_right _ _ (by positivity), Nat.div_eq_of_lt hf, Nat.zero_add]
  have hmod : ((e + 1) * 2 ^ p + f) % 2 ^ p = f := by
    rw [Nat.mul_add_mod_of_lt hf]
  simp [patternMagnitude, hdiv, hmod]

/-- On the grid of spacing `2^k` the pattern `k * 2^p + j` stands for `j * 2^k`, up to and including the first value of
the next grid. -/
theorem patternMagnitude_grid {p k j : Nat} (hlo : k = 0 ∨ 2 ^ p ≤ j) (hhi : j ≤ 2 ^ (p + 1)) :
    patternMagnitude p (k * 2 ^ p + j) = j * 2 ^ k := by
  have hp : 0 < 2 ^ p := by positivity
  rw [Nat.pow_succ] at hhi
  rcases Nat.lt_or_ge j (2 ^ p) with hsub | hnorm
  · obtain rfl : k = 0 := by omega
    simpa using patternMagnitude_subnormal hsub
  obtain ⟨f, rfl⟩ := Nat.exists_eq_add_of_le hnorm
  rcases Nat.lt_or_ge f (2 ^ p) with hf | hf
  · rw [← patternMagnitude_normal k hf]
    congr 1
    ring
  · obtain rfl : f = 2 ^ p := by omega
    calc patternMagnitude p (k * 2 ^ p + (2 ^ p + 2 ^ p))
        = patternMagnitude p ((k + 1 + 1) * 2 ^ p + 0) := by congr 1; ring
      _ = (2 ^ p + 2 ^ p) * 2 ^ k := by rw [patternMagnitude_normal _ hp]; ring

/-- Every pattern lies on a grid, below its last value. -/
theorem exists_grid (p b : Nat) : ∃ k j, b = k * 2 ^ p + j ∧ (k = 0 ∨ 2 ^ p ≤ j) ∧ j < 2 ^ (p + 1) := by
  have hb : 2 ^ p * (b / 2 ^ p) + b % 2 ^ p = b := Nat.div_add_mod b (2 ^ p)
  have hm : b % 2 ^ p < 2 ^ p := Nat.mod_lt _ (by positivity)
  rw [Nat.pow_succ]
  cases he : b / 2 ^ p with
  | zero => exact ⟨0, b, by omega, .inl rfl, by rw [he] at hb; omega⟩
  | succ e =>
    refine ⟨e, 2 ^ p + b % 2 ^ p, ?_, .inr (Nat.le_add_right _ _), by omega⟩
    rw [he] at hb
    rw [← Nat.add_assoc, ← Nat.succ_mul, Nat.mul_comm]
    exact hb.symm

/-- The magnitudes of the patterns of a format grow with the pattern. -/
theorem patternMagnitude_strictMono (p : Nat) : StrictMono (patternMagnitude p) := by
  refine strictMono_nat_of_lt_succ fun b => ?_
  obtain ⟨k, j, rfl, hlo, hhi⟩ := exists_grid p b
  rw [patternMagnitude_grid hlo hhi.le, Nat.add_assoc, patternMagnitude_grid (by omega) (by omega)]
  exact Nat.mul_lt_mul_of_pos_right (Nat.lt_succ_self j) (by positivity)

/-- `r` is the nearer to `num / den` of the two consecutive patterns `lo` and `lo + 1` around it; the even one on a
tie. -/
structure NearerNeighbour (p num den lo r : Nat) : Prop where
  lower_le : patternMagnitude p lo * den ≤ num
  lt_upper : num < patternMagnitude p (lo + 1) * den
  nearer :
    (r = lo ∧ 2 * num ≤ (patternMagnitude p lo + patternMagnitude p (lo + 1)) * den ∧
      (2 * num = (patternMagnitude p lo + patternMagnitude p (lo + 1)) * den → r % 2 = 0)) ∨
    (r = lo + 1 ∧ (patternMagnitude p lo + patternMagnitude p (lo + 1)) * den ≤ 2 * num ∧
      (2 * num = (patternMagnitude p lo + patternMagnitude p (lo + 1)) * den → r % 2 = 0))

/-- The distance to a pattern at or below the exact quotient. -/
theorem patternDistance_of_le {p b num den : Nat} (h : patternMagnitude p b * den ≤ num) :
    patternDistance p b num den = num - (patternMagnitude p b * den : Nat) := by
  have hle : (patternMagnitude p b : Int) * den ≤ num := by exact_mod_cast h
  rw [patternDistance, abs_of_nonpos (by omega)]
  push_cast
  omega

/-- The distance to a pattern at or above the exact quotient. -/
theorem patternDistance_of_ge {p b num den : Nat} (h : num ≤ patternMagnitude p b * den) :
    patternDistance p b num den = (patternMagnitude p b * den : Nat) - num := by
  have hge : (num : Int) ≤ patternMagnitude p b * den := by exact_mod_cast h
  rw [patternDistance, abs_of_nonneg (by omega)]
  push_cast
  rfl

/-- No pattern is nearer than the nearer neighbour, and one that is as near leaves it even. -/
theorem NearerNeighbour.nearest {p num den lo r : Nat} (h : NearerNeighbour p num den lo r) (hd : 0 < den) {b : Nat}
    (hb : b ≠ r) :
    patternDistance p r num den ≤ patternDistance p b num den ∧
      (patternDistance p r num den = patternDistance p b num den → r % 2 = 0) := by
  obtain ⟨hlo, hhi, hnear⟩ := h
  have hmono := patternMagnitude_strictMono p
  have dlo := patternDistance_of_le hlo
  have dhi := patternDistance_of_ge hhi.le
  rw [Nat.add_mul] at hnear
  rcases Nat.lt_trichotomy b lo with hlt | rfl | hgt
  · have hm : patternMagnitude p b * den < patternMagnitude p lo * den :=
      Nat.mul_lt_mul_of_pos_right (hmono hlt) hd
    have db := patternDistance_of_le (hm.le.trans hlo)
    rcases hnear with ⟨rfl, hle, htie⟩ | ⟨rfl, hle, htie⟩ <;> omega
  · rcases hnear with ⟨rfl, hle, htie⟩ | ⟨rfl, hle, htie⟩
    · exact absurd rfl hb
    · omega
  · have hm : patternMagnitude p (lo + 1) * den ≤ patternMagnitude p b * den :=
      Nat.mul_le_mul_right den (hmono.monotone hgt)
    have db := patternDistance_of_ge (hhi.le.trans hm)
    rcases hnear with ⟨rfl, hle, htie⟩ | ⟨rfl, hle, htie⟩
    · omega
    · have hm' : patternMagnitude p (lo + 1) * den < patternMagnitude p b * den :=
        Nat.mul_lt_mul_of_pos_right (hmono (by omega)) hd
      omega

/-- The nearer neighbour reaches an even pattern `top` exactly from the midpoint of `top - 1` and `top` on. -/
theorem NearerNeighbour.top_le_iff {p num den lo r top limit : Nat} (h : NearerNeighbour p num den lo r) (hd : 0 < den)
    (hpos : 0 < top) (heven : top % 2 = 0)
    (hlimit : 2 * limit = patternMagnitude p (top - 1) + patternMagnitude p top) :
    top ≤ r ↔ limit * den ≤ num := by
  obtain ⟨hlo, hhi, hnear⟩ := h
  have hmono := patternMagnitude_strictMono p
  have hlim : 2 * (limit * den) = patternMagnitude p (top - 1) * den + patternMagnitude p top * den := by
    rw [← Nat.add_mul, ← hlimit, Nat.mul_assoc]
  have hm : patternMagnitude p (top - 1) * den < patternMagnitude p top * den :=
    Nat.mul_lt_mul_of_pos_right (hmono (by omega)) hd
  rw [Nat.add_mul] at hnear
  rcases Nat.lt_trichotomy (lo + 1) top with hlt | rfl | hgt
  · have hm' : patternMagnitude p (lo + 1) * den ≤ patternMagnitude p (top - 1) * den :=
      Nat.mul_le_mul_right den (hmono.monotone (by omega))
    omega
  · rw [Nat.add_sub_cancel] at hlim
    omega
  · have hm' : patternMagnitude p top * den ≤ patternMagnitude p lo * den :=
      Nat.mul_le_mul_right den (hmono.monotone (by omega))
    omega

/-- The nearer neighbour, cut at the pattern of infinity, is the rounding of 00_scope R13. -/
theorem NearerNeighbour.roundsTo {p num den lo r top limit : Nat} (h : NearerNeighbour p num den lo r) (hd : 0 < den)
    (hpos : 0 < top) (heven : top % 2 = 0)
    (hlimit : 2 * limit = patternMagnitude p (top - 1) + patternMagnitude p top) :
    RoundsTo p top limit num den (min top r) := by
  refine ⟨min_le_left _ _, ?_, fun hlt b _ hb => ?_⟩
  · rw [min_eq_left_iff]
    exact h.top_le_iff hd hpos heven hlimit
  · have hr : min top r = r := by omega
    rw [hr] at hb ⊢
    exact h.nearest hd hb

/-- The spacing of the grid on which `num / den` is rounded is `2^(gridExponent p num den)` units. -/
def gridExponent (p num den : Nat) : Nat := Nat.log2 (num / den) - p

/-- The pattern `roundMagnitude` computes before it cuts at infinity. -/
def roundedPattern (p num den : Nat) : Nat :=
  gridExponent p num den * 2 ^ p + nearestEven num (den * 2 ^ gridExponent p num den)

theorem roundMagnitude_eq (p top num den : Nat) : roundMagnitude p top num den = min top (roundedPattern p num den) :=
  rfl

/-- The whole part of the quotient, counted in grid steps, has `p + 1` bits, or fewer on the subnormal grid. -/
theorem gridQuotient_bounds (p num den : Nat) :
    (gridExponent p num den = 0 ∨ 2 ^ p ≤ num / (den * 2 ^ gridExponent p num den)) ∧
      num / (den * 2 ^ gridExponent p num den) < 2 ^ (p + 1) := by
  rw [← Nat.div_div_eq_div_mul]
  unfold gridExponent
  generalize num / den = w
  rcases Nat.eq_zero_or_pos w with rfl | hw
  · simp
  rw [Nat.le_div_iff_mul_le (by positivity), Nat.div_lt_iff_lt_mul (by positivity), ← Nat.pow_add, ← Nat.pow_add]
  have hle : 2 ^ w.log2 ≤ w := Nat.log2_self_le hw.ne'
  have hlt : w < 2 ^ (w.log2 + 1) := Nat.lt_log2_self
  constructor
  · rcases Nat.le_total w.log2 p with h | h
    · exact .inl (Nat.sub_eq_zero_of_le h)
    · exact .inr (by rwa [Nat.add_sub_cancel' h])
  · exact hlt.trans_le (Nat.pow_le_pow_right (by norm_num) (by omega))

/-- The nearest even natural is the whole part of the quotient or the next one. -/
theorem nearestEven_eq_div_or {num den : Nat} (hd : 0 < den) :
    nearestEven num den = num / den ∨ nearestEven num den = num / den + 1 := by
  obtain ⟨hup, hdown, -⟩ := nearestEven_spec num den hd
  have h1 : num / den * den ≤ num := Nat.div_mul_le_self num den
  have h2 : num < num / den * den + den := Nat.lt_div_mul_add hd
  have hge : 2 * (num / den) < 2 * nearestEven num den + 2 := by
    refine Nat.lt_of_mul_lt_mul_right (a := den) ?_
    nlinarith
  have hle : 2 * nearestEven num den < 2 * (num / den) + 3 := by
    refine Nat.lt_of_mul_lt_mul_right (a := den) ?_
    nlinarith
  omega

/-- Rounding to a whole number of grid steps picks the nearer of the two neighbouring patterns. -/
theorem roundedPattern_nearer {p num den : Nat} (hp : 0 < p) (hd : 0 < den) :
    NearerNeighbour p num den
      (gridExponent p num den * 2 ^ p + num / (den * 2 ^ gridExponent p num den)) (roundedPattern p num den) := by
  obtain ⟨hlo, hhi⟩ := gridQuotient_bounds p num den
  unfold roundedPattern
  generalize gridExponent p num den = k at *
  have hstep : 0 < den * 2 ^ k := by positivity
  obtain ⟨hup, hdown, htie⟩ := nearestEven_spec num (den * 2 ^ k) hstep
  have hcases := nearestEven_eq_div_or (num := num) hstep
  have hfloor := Nat.div_mul_le_self num (den * 2 ^ k)
  have hceil := Nat.lt_div_mul_add (a := num) hstep
  generalize num / (den * 2 ^ k) = q at *
  generalize nearestEven num (den * 2 ^ k) = t at *
  have heven : k * 2 ^ p % 2 = 0 := by
    obtain ⟨n, rfl⟩ := Nat.exists_eq_succ_of_ne_zero hp.ne'
    rw [Nat.pow_succ, ← Nat.mul_assoc, Nat.mul_mod_left]
  have hlower : patternMagnitude p (k * 2 ^ p + q) = q * 2 ^ k := patternMagnitude_grid hlo hhi.le
  have hupper : patternMagnitude p (k * 2 ^ p + q + 1) = (q + 1) * 2 ^ k := by
    rw [Nat.add_assoc, patternMagnitude_grid (by omega) (by omega)]
  have hmid : (q * 2 ^ k + (q + 1) * 2 ^ k) * den = (2 * q + 1) * (den * 2 ^ k) := by ring
  refine ⟨?_, ?_, ?_⟩
  · rw [hlower]; linarith
  · rw [hupper]; linarith
  · rw [hlower, hupper, hmid]
    rcases hcases with rfl | rfl
    · exact .inl ⟨rfl, hup, fun h => by have := htie (.inl h); omega⟩
    · refine .inr ⟨by omega, by linarith, fun h => ?_⟩
      have := htie (.inr (by linarith))
      omega

/-- The rounding of the model is that of 00_scope R13, for every format whose overflow threshold is the midpoint of the
largest finite value and the next one. -/
theorem roundMagnitude_roundsTo {p top limit num den : Nat} (hp : 0 < p) (hd : 0 < den) (hpos : 0 < top)
    (heven : top % 2 = 0) (hlimit : 2 * limit = patternMagnitude p (top - 1) + patternMagnitude p top) :
    RoundsTo p top limit num den (roundMagnitude p top num den) :=
  (roundedPattern_nearer hp hd).roundsTo hd hpos heven hlimit

/-- `roundMagnitude` with the parameters of binary32 rounds to binary32. -/
theorem roundMagnitude_roundsTo32 (num : Nat) {den : Nat} (hd : 0 < den) :
    RoundsTo32 num den (roundMagnitude 23 0x7F800000 num den) :=
  roundMagnitude_roundsTo (by decide) hd (by decide) (by decide) (by decide +kernel)

/-- `roundMagnitude` with the parameters of binary16 rounds to binary16. -/
theorem roundMagnitude_roundsTo16 (num : Nat) {den : Nat} (hd : 0 < den) :
    RoundsTo16 num den (roundMagnitude 10 0x7C00 num den) :=
  roundMagnitude_roundsTo (by decide) hd (by decide) (by decide) (by decide +kernel)

/-- Settles O41: the grid on which the quotient is rounded holds both neighbouring patterns, and the nearest whole number
of its steps is the nearer of the two. -/
theorem roundingIsCorrect : Obligations.RoundingIsCorrect := by
  intro num den hd
  exact ⟨roundMagnitude_roundsTo32 num hd, roundMagnitude_roundsTo16 num hd⟩

end Sys2Proof.Machine
end

section
/-!
PROOFS. The fields of a lane as arithmetic on its word, and the values of binary32 (00_scope R11): what the other proofs
about floats need of them.
-/

namespace Sys2Proof.Machine

/-- The exponent field is bits 30 to 23 of the word. -/
theorem expField_eq (x : Lane) : expField x = x.toNat / 2 ^ 23 % 2 ^ 8 := by
  simp [expField, BitVec.extractLsb'_toNat, Nat.shiftRight_eq_div_pow]

/-- The fraction field is the low 23 bits of the word. -/
theorem fracField_eq (x : Lane) : fracField x = x.toNat % 2 ^ 23 := by
  simp [fracField, BitVec.extractLsb'_toNat]

/-- The sign bit is the top bit of the word. -/
theorem signBit_eq (x : Lane) : signBit x = decide (2 ^ 31 ≤ x.toNat) := by
  have hx : x.toNat < 2 ^ 32 := x.isLt
  rw [signBit, BitVec.getLsbD, Nat.testBit_eq_decide_div_mod_eq, decide_eq_decide]
  omega

/-- The exponent field above the fraction field. -/
theorem toNat_mod_eq_fields (x : Lane) : x.toNat % 2 ^ 31 = expField x * 2 ^ 23 + fracField x := by
  rw [expField_eq, fracField_eq]
  omega

theorem expField_lt (x : Lane) : expField x < 2 ^ 8 := by
  rw [expField_eq]
  exact Nat.mod_lt _ (by positivity)

theorem fracField_lt (x : Lane) : fracField x < 2 ^ 23 := by
  rw [fracField_eq]
  exact Nat.mod_lt _ (by positivity)

/-- A lane is its sign bit, its exponent field and its fraction field. -/
theorem lane_ext {x y : Lane} (hs : signBit x = signBit y) (he : expField x = expField y)
    (hf : fracField x = fracField y) : x = y := by
  have hx : x.toNat < 2 ^ 32 := x.isLt
  have hy : y.toNat < 2 ^ 32 := y.isLt
  have hxy : x.toNat % 2 ^ 31 = y.toNat % 2 ^ 31 := by rw [toNat_mod_eq_fields, toNat_mod_eq_fields, he, hf]
  rw [signBit_eq, signBit_eq, decide_eq_decide] at hs
  apply BitVec.eq_of_toNat_eq
  omega

theorem isInf_iff (x : Lane) : isInf x = true ↔ expField x = 255 ∧ fracField x = 0 := by simp [isInf]
theorem isZero_iff (x : Lane) : isZero x = true ↔ expField x = 0 ∧ fracField x = 0 := by simp [isZero]
theorem isFinite_iff (x : Lane) : isFinite x = true ↔ expField x ≠ 255 := by simp [isFinite]

theorem isNaN_of_isFinite {x : Lane} (h : isFinite x = true) : isNaN x = false := by
  rw [isFinite_iff] at h
  simp [isNaN, h]

theorem isInf_of_isFinite {x : Lane} (h : isFinite x = true) : isInf x = false := by
  rw [isFinite_iff] at h
  simp [isInf, h]

theorem isNaN_of_isInf {x : Lane} (h : isInf x = true) : isNaN x = false := by
  rw [isInf_iff] at h
  simp [isNaN, h]

theorem isZero_of_isInf {x : Lane} (h : isInf x = true) : isZero x = false := by
  rw [isInf_iff] at h
  simp [isZero, h]

theorem isFinite_of_isZero {x : Lane} (h : isZero x = true) : isFinite x = true := by
  rw [isZero_iff] at h
  simp [isFinite, h]

theorem isInf_of_isZero {x : Lane} (h : isZero x = true) : isInf x = false :=
  isInf_of_isFinite (isFinite_of_isZero h)

theorem isNaN_of_isZero {x : Lane} (h : isZero x = true) : isNaN x = false :=
  isNaN_of_isFinite (isFinite_of_isZero h)

/-- The finite lanes are those whose fields stay below the pattern of infinity. -/
theorem isFinite_iff_fields (x : Lane) : isFinite x = true ↔ x.toNat % 2 ^ 31 < 0x7F800000 := by
  have he := expField_lt x
  have hf := fracField_lt x
  rw [isFinite_iff, toNat_mod_eq_fields]
  omega

/-- The magnitude of a lane is the magnitude of its exponent and fraction fields as a pattern. -/
theorem magnitude_eq (x : Lane) : magnitude x = patternMagnitude 23 (x.toNat % 2 ^ 31) := by
  have hf := fracField_lt x
  rw [toNat_mod_eq_fields, magnitude]
  split
  · next he => rw [he, Nat.zero_mul, Nat.zero_add, patternMagnitude_subnormal hf]
  · next he =>
    obtain ⟨e, he⟩ := Nat.exists_eq_succ_of_ne_zero he
    rw [he, patternMagnitude_normal e hf, Nat.succ_sub_one]

/-- Only the zeros have magnitude 0. -/
theorem magnitude_eq_zero_iff (x : Lane) : magnitude x = 0 ↔ isZero x = true := by
  rw [isZero_iff, magnitude]
  split <;> simp_all

theorem magnitude_pos {x : Lane} (h : isZero x = false) : 0 < magnitude x := by
  rw [Nat.pos_iff_ne_zero, Ne, magnitude_eq_zero_iff, h]
  exact Bool.false_ne_true

/-- The one lane that is a zero with its sign bit set is -0. -/
theorem isZero_and_signBit_iff (x : Lane) : (isZero x = true ∧ signBit x = true) ↔ x = 0x80000000 := by
  constructor
  · rintro ⟨hz, hs⟩
    rw [isZero_iff] at hz
    exact lane_ext hs hz.1 hz.2
  · rintro rfl
    decide

/-- The cut at the pattern of infinity keeps a rounded pattern within the 31 bits below the sign. -/
theorem roundMagnitude32_lt (num den : Nat) : roundMagnitude 23 0x7F800000 num den < 2 ^ 31 :=
  (min_le_left _ _).trans_lt (by decide)

@[simp] theorem signBit_rne32 (neg : Bool) (num den : Nat) : signBit (rne32 neg num den) = neg := by
  rw [signBit, rne32, BitVec.getLsbD_append]
  simp

/-- Below its sign a rounded lane is the rounded pattern. -/
theorem rne32_fields (neg : Bool) (num den : Nat) :
    (rne32 neg num den).toNat % 2 ^ 31 = roundMagnitude 23 0x7F800000 num den := by
  have hlt := roundMagnitude32_lt num den
  rw [rne32, BitVec.toNat_append, BitVec.toNat_ofNat, Nat.mod_eq_of_lt hlt, ← Nat.shiftLeft_add_eq_or_of_lt hlt,
    Nat.shiftLeft_eq, Nat.mul_add_mod_of_lt hlt]

/-- `rne32` gives its sign and its quotient rounded to binary32 (00_scope R13). -/
theorem rne32_roundsTo (neg : Bool) (num : Nat) {den : Nat} (hd : 0 < den) :
    RoundsTo32 num den ((rne32 neg num den).toNat % 2 ^ 31) := by
  rw [rne32_fields]
  exact roundMagnitude_roundsTo32 num hd

end Sys2Proof.Machine
end

section
/-!
PROOFS. The arithmetic primitives `fmul32`, `fadd32` and `fdiv32` (00_scope R14): one equation per case, and the
statements about them.
-/

namespace Sys2Proof.Machine

section Cases

variable {x y : Lane}

theorem fmul32_of_isNaN (h : isNaN x = true ∨ isNaN y = true) : fmul32 x y = qNaN := by
  rcases h with h | h <;> simp [fmul32, h]

theorem fmul32_isInf_isZero (h : (isInf x = true ∧ isZero y = true) ∨ (isZero x = true ∧ isInf y = true)) :
    fmul32 x y = qNaN := by
  rcases h with ⟨hx, hy⟩ | ⟨hx, hy⟩ <;> simp [fmul32, hx, hy]

theorem fmul32_of_isInf (h : (isInf x = true ∧ isNaN y = false ∧ isZero y = false) ∨
      (isInf y = true ∧ isNaN x = false ∧ isZero x = false)) :
    fmul32 x y = infinity (signBit x ^^ signBit y) := by
  rcases h with ⟨hinf, hnan, hzero⟩ | ⟨hinf, hnan, hzero⟩ <;>
    simp [fmul32, hinf, hnan, hzero, isNaN_of_isInf hinf, isZero_of_isInf hinf]

theorem fmul32_of_isFinite (hx : isFinite x = true) (hy : isFinite y = true) :
    fmul32 x y = rne32 (signBit x ^^ signBit y) (magnitude x * magnitude y) one := by
  simp [fmul32, isNaN_of_isFinite hx, isNaN_of_isFinite hy, isInf_of_isFinite hx, isInf_of_isFinite hy]

theorem fadd32_of_isNaN (h : isNaN x = true ∨ isNaN y = true) : fadd32 x y = qNaN := by
  rcases h with h | h <;> simp [fadd32, h]

theorem fadd32_isInf_isInf (hx : isInf x = true) (hy : isInf y = true) :
    fadd32 x y = if x = y then x else qNaN := by
  simp [fadd32, hx, hy, isNaN_of_isInf hx, isNaN_of_isInf hy]

theorem fadd32_isInf_isFinite (hx : isInf x = true) (hy : isFinite y = true) : fadd32 x y = x := by
  simp [fadd32, hx, isNaN_of_isInf hx, isNaN_of_isFinite hy, isInf_of_isFinite hy]

theorem fadd32_isFinite_isInf (hx : isFinite x = true) (hy : isInf y = true) : fadd32 x y = y := by
  simp [fadd32, hy, isNaN_of_isInf hy, isNaN_of_isFinite hx, isInf_of_isFinite hx]

theorem fadd32_of_isFinite (hx : isFinite x = true) (hy : isFinite y = true) :
    fadd32 x y = if value x + value y = 0 then zero (isZero x && isZero y && signBit x && signBit y)
      else rne32 (decide (value x + value y < 0)) (value x + value y).natAbs 1 := by
  simp [fadd32, isNaN_of_isFinite hx, isNaN_of_isFinite hy, isInf_of_isFinite hx, isInf_of_isFinite hy]

/-- An exact zero sum is -0 for two operands -0, and +0 otherwise. -/
theorem fadd32_of_sum_eq_zero (hx : isFinite x = true) (hy : isFinite y = true) (h : value x + value y = 0) :
    fadd32 x y = if x = 0x80000000 ∧ y = 0x80000000 then 0x80000000 else 0x00000000 := by
  have hsigns : (isZero x && isZero y && signBit x && signBit y) = true ↔ x = 0x80000000 ∧ y = 0x80000000 := by
    rw [← isZero_and_signBit_iff x, ← isZero_and_signBit_iff y]
    simp only [Bool.and_eq_true]
    tauto
  rw [fadd32_of_isFinite hx hy, if_pos h, zero, if_congr hsigns rfl rfl]
  rfl

theorem fadd32_of_sum_ne_zero (hx : isFinite x = true) (hy : isFinite y = true) (h : value x + value y ≠ 0) :
    fadd32 x y = rne32 (decide (value x + value y < 0)) (value x + value y).natAbs 1 := by
  rw [fadd32_of_isFinite hx hy, if_neg h]

theorem fdiv32_of_isNaN (h : isNaN x = true ∨ isNaN y = true) : fdiv32 x y = qNaN := by
  rcases h with h | h <;> simp [fdiv32, h]

theorem fdiv32_isInf_isInf (hx : isInf x = true) (hy : isInf y = true) : fdiv32 x y = qNaN := by
  simp [fdiv32, hx, hy]

theorem fdiv32_isZero_isZero (hx : isZero x = true) (hy : isZero y = true) : fdiv32 x y = qNaN := by
  simp [fdiv32, hx, hy, isInf_of_isZero hx, isInf_of_isZero hy]

theorem fdiv32_isInf_isFinite (hx : isInf x = true) (hy : isFinite y = true) :
    fdiv32 x y = infinity (signBit x ^^ signBit y) := by
  simp [fdiv32, hx, isNaN_of_isInf hx, isNaN_of_isFinite hy, isInf_of_isFinite hy]

theorem fdiv32_isFinite_isInf (hx : isFinite x = true) (hy : isInf y = true) :
    fdiv32 x y = zero (signBit x ^^ signBit y) := by
  simp [fdiv32, hy, isNaN_of_isInf hy, isNaN_of_isFinite hx, isInf_of_isFinite hx]

theorem fdiv32_of_isZero_right (hx : isFinite x = true) (hx0 : isZero x = false) (hy : isZero y = true) :
    fdiv32 x y = infinity (signBit x ^^ signBit y) := by
  simp [fdiv32, hx0, hy, isNaN_of_isFinite hx, isInf_of_isFinite hx, isNaN_of_isZero hy, isInf_of_isZero hy]

theorem fdiv32_of_isFinite (hx : isFinite x = true) (hy : isFinite y = true) (hy0 : isZero y = false) :
    fdiv32 x y = rne32 (signBit x ^^ signBit y) (magnitude x * one) (magnitude y) := by
  simp [fdiv32, hy0, isNaN_of_isFinite hx, isNaN_of_isFinite hy, isInf_of_isFinite hx, isInf_of_isFinite hy]

end Cases

/-- Settles O42, case by case: the product of finite operands is one rounding of the exact product. -/
theorem fmulRoundsTheExactProduct : Obligations.FmulRoundsTheExactProduct := by
  refine fun x y => ⟨fmul32_of_isNaN, fmul32_isInf_isZero, fmul32_of_isInf, fun hx hy => ?_⟩
  rw [fmul32_of_isFinite hx hy]
  exact ⟨signBit_rne32 _ _ _, rne32_roundsTo _ _ (by decide)⟩

/-- Settles O43, case by case: a sum of finite operands that is not zero is one rounding of the exact sum. -/
theorem faddRoundsTheExactSum : Obligations.FaddRoundsTheExactSum := by
  refine fun x y => ⟨fadd32_of_isNaN, fadd32_isInf_isInf, fadd32_isInf_isFinite, fadd32_isFinite_isInf,
    fadd32_of_sum_eq_zero, fun hx hy hsum => ?_⟩
  rw [fadd32_of_sum_ne_zero hx hy hsum]
  exact ⟨signBit_rne32 _ _ _, rne32_roundsTo _ _ Nat.one_pos⟩

/-- Settles O44, case by case: the quotient of a finite by a finite nonzero operand is one rounding of the exact
quotient. -/
theorem fdivRoundsTheExactQuotient : Obligations.FdivRoundsTheExactQuotient := by
  refine fun x y => ⟨fdiv32_of_isNaN, ?_, fdiv32_isInf_isFinite, fdiv32_isFinite_isInf, fdiv32_of_isZero_right,
    fun hx hy hy0 => ?_⟩
  · rintro (⟨hx, hy⟩ | ⟨hx, hy⟩)
    · exact fdiv32_isInf_isInf hx hy
    · exact fdiv32_isZero_isZero hx hy
  · rw [fdiv32_of_isFinite hx hy hy0]
    exact ⟨signBit_rne32 _ _ _, rne32_roundsTo _ _ (magnitude_pos hy0)⟩

end Sys2Proof.Machine
end

section
/-!
PROOFS. Values that need no rounding: a magnitude that is a whole number of steps of its grid is a binary32 value, so the
integers of at most 16 bits convert exactly (00_scope R14).
-/

namespace Sys2Proof.Machine

/-- A quotient that is a whole number of its grid steps is its own nearest even. -/
theorem nearestEven_mul_right (n : Nat) {den : Nat} (hd : 0 < den) : nearestEven (n * den) den = n := by
  simp [nearestEven, Nat.mul_div_cancel n hd, hd.ne]

/-- A quotient that is a whole number of the steps of its grid is the magnitude of a pattern, and rounds to it. -/
theorem roundedPattern_exact {p num den : Nat} (hd : 0 < den) (hdvd : den * 2 ^ gridExponent p num den ∣ num) :
    patternMagnitude p (roundedPattern p num den) * den = num := by
  obtain ⟨hlo, hhi⟩ := gridQuotient_bounds p num den
  unfold roundedPattern
  generalize gridExponent p num den = k at *
  obtain ⟨n, rfl⟩ := exists_eq_mul_left_of_dvd hdvd
  have hstep : 0 < den * 2 ^ k := by positivity
  rw [Nat.mul_div_cancel n hstep] at hlo hhi
  rw [nearestEven_mul_right n hstep, patternMagnitude_grid hlo hhi.le]
  ring

/-- `rne32` is exact on a magnitude below the overflow threshold that is a whole number of the steps of its grid. -/
theorem rne32_exact (neg : Bool) {num : Nat} (hdvd : 2 ^ gridExponent 23 num 1 ∣ num)
    (hlt : num < (2 ^ 25 - 1) * 2 ^ 252) :
    isFinite (rne32 neg num 1) = true ∧ magnitude (rne32 neg num 1) = num := by
  obtain ⟨hle, htop, -⟩ := rne32_roundsTo neg num Nat.one_pos
  have hfin : (rne32 neg num 1).toNat % 2 ^ 31 < 0x7F800000 := by
    refine lt_of_le_of_ne hle fun h => ?_
    have := htop.mp h
    omega
  have hexact := roundedPattern_exact Nat.one_pos (num := num) (p := 23) (by rwa [Nat.one_mul])
  refine ⟨(isFinite_iff_fields _).mpr hfin, ?_⟩
  rw [rne32_fields, roundMagnitude_eq] at hfin
  rw [magnitude_eq, rne32_fields, roundMagnitude_eq, min_eq_right (by omega), ← Nat.mul_one (patternMagnitude _ _),
    hexact]

/-- A natural of at most 16 bits has no bits below its grid. -/
theorem grid_dvd_mul_one {m : Nat} (hm : m ≤ 65535) : 2 ^ gridExponent 23 (m * one) 1 ∣ m * one := by
  rcases Nat.eq_zero_or_pos m with rfl | hpos
  · simp
  have hne : m * one ≠ 0 := by simp [one, hpos.ne']
  have hlog : (m * one).log2 < 165 := by
    rw [Nat.log2_lt hne]
    unfold one
    omega
  refine Dvd.dvd.mul_left (Nat.pow_dvd_pow 2 ?_) m
  rw [gridExponent, Nat.div_one]
  omega

/-- `i2f32` is exact on the integers of at most 16 bits of magnitude. -/
theorem i2f32_exact {n : Int} (hn : |n| ≤ 65535) : isFinite (i2f32 n) = true ∧ value (i2f32 n) = n * one := by
  have hm : n.natAbs ≤ 65535 := by
    rw [Int.abs_eq_natAbs] at hn
    omega
  have hlt : n.natAbs * one < (2 ^ 25 - 1) * 2 ^ 252 := by
    unfold one
    omega
  obtain ⟨hfin, hmag⟩ := rne32_exact (decide (n < 0)) (grid_dvd_mul_one hm) hlt
  refine ⟨hfin, ?_⟩
  rw [i2f32, value, hmag, signBit_rne32]
  rcases lt_or_ge n 0 with hneg | hnonneg
  · simp [hneg, Int.ofNat_natAbs_of_nonpos hneg.le]
  · simp [hnonneg.not_gt, Int.natAbs_of_nonneg hnonneg]

/-- `f2i` reads a whole value. -/
theorem f2i_eq_of_value {x : Lane} {n : Int} (h : value x = n * one) : f2i x = n := by
  rw [f2i, h]
  exact Int.mul_ediv_cancel n (by decide)

/-- Settles O45: an integer of at most 16 bits is a whole number of steps of its grid, so no rounding happens. -/
theorem integersConvertExactly : Obligations.IntegersConvertExactly := by
  refine ⟨fun n hn => ?_, by decide +kernel⟩
  obtain ⟨hfin, hval⟩ := i2f32_exact hn
  exact ⟨hfin, hval, f2i_eq_of_value hval⟩

end Sys2Proof.Machine
end

section
/-!
PROOFS. The decoder and the encoder meet at the fields of a command word (30_encoding R60 to R66): the twelve operations,
each at a format or a lane count, are the instructions, and `decodeOp` is the inverse of `Instr.fields`.
-/

namespace Sys2Proof.Machine

section Fields

variable {op fmt len : Nat} {i : Instr}

theorem needFormat_eq_ok {make : Format → Instr} :
    needFormat fmt make = .ok i ↔ ∃ f, Format.ofCode fmt = some f ∧ make f = i := by
  unfold needFormat
  cases Format.ofCode fmt <;> simp

theorem needLanes_eq_ok {make : Lanes → Instr} :
    needLanes fmt make = .ok i ↔ ∃ n, Lanes.ofCode fmt = some n ∧ make n = i := by
  unfold needLanes
  cases Lanes.ofCode fmt <;> simp

theorem needNoLen_eq_ok {r : Except Reject Instr} : needNoLen len r = .ok i ↔ len = 0 ∧ r = .ok i := by
  unfold needNoLen
  cases r with
  | error e => simp
  | ok j => by_cases h : len = 0 <;> simp [h]

/-- Only its own code stands for a format (30_encoding R66). -/
theorem code_of_ofCode_format {f : Format} (h : Format.ofCode fmt = some f) : fmt = f.code := by
  unfold Format.ofCode at h
  split at h <;> cases h <;> rfl

/-- Only its own code stands for a lane count (30_encoding R62). -/
theorem code_of_ofCode_lanes {n : Lanes} (h : Lanes.ofCode fmt = some n) : fmt = n.code := by
  unfold Lanes.ofCode at h
  split at h <;> cases h <;> rfl

/-- The twelve operations of 30_encoding R61, each at a format or a lane count, with the fields of their words. -/
inductive Operation : CmdFields → Instr → Prop where
  | fromp (f : Format) : Operation ⟨0x1, f.code, 0⟩ (.fromp f)
  | pack (f : Format) : Operation ⟨0x2, f.code, 0⟩ (.pack f)
  | unpack (f : Format) : Operation ⟨0x3, f.code, 0⟩ (.unpack f)
  | enc (f : Format) : Operation ⟨0x4, f.code, 0⟩ (.enc f)
  | encs (len : Nat) (f : Format) : Operation ⟨0x5, f.code, len⟩ (.encs len f)
  | dec (f : Format) : Operation ⟨0x6, f.code, 0⟩ (.dec f)
  | cmpeq (f : Format) : Operation ⟨0x7, f.code, 0⟩ (.cmpeq f)
  | vclamp (n : Lanes) : Operation ⟨0x8, n.code, 0⟩ (.vclamp n)
  | vround (n : Lanes) : Operation ⟨0x9, n.code, 0⟩ (.vround n)
  | vtrunc (n : Lanes) : Operation ⟨0xA, n.code, 0⟩ (.vtrunc n)
  | vsat (n : Lanes) : Operation ⟨0xB, n.code, 0⟩ (.vsat n)
  | vmadd (n : Lanes) : Operation ⟨0xC, n.code, 0⟩ (.vmadd n)

/-- An operation without `LEN` that decodes at a format. -/
theorem operation_of_needFormat {make : Format → Instr} (hmake : ∀ f, Operation ⟨op, f.code, 0⟩ (make f))
    (h : needNoLen len (needFormat fmt make) = .ok i) : Operation ⟨op, fmt, len⟩ i := by
  obtain ⟨rfl, hformat⟩ := needNoLen_eq_ok.mp h
  obtain ⟨f, hf, rfl⟩ := needFormat_eq_ok.mp hformat
  exact code_of_ofCode_format hf ▸ hmake f

/-- An operation without `LEN` that decodes at a lane count. -/
theorem operation_of_needLanes {make : Lanes → Instr} (hmake : ∀ n, Operation ⟨op, n.code, 0⟩ (make n))
    (h : needNoLen len (needLanes fmt make) = .ok i) : Operation ⟨op, fmt, len⟩ i := by
  obtain ⟨rfl, hlanes⟩ := needNoLen_eq_ok.mp h
  obtain ⟨n, hn, rfl⟩ := needLanes_eq_ok.mp hlanes
  exact code_of_ofCode_lanes hn ▸ hmake n

/-- Everything `decodeOp` can answer. -/
theorem operation_of_decodeOp (h : decodeOp op fmt len = .ok i) : Operation ⟨op, fmt, len⟩ i := by
  unfold decodeOp at h
  split at h
  · exact operation_of_needFormat .fromp h
  · exact operation_of_needFormat .pack h
  · exact operation_of_needFormat .unpack h
  · exact operation_of_needFormat .enc h
  · obtain ⟨f, hf, rfl⟩ := needFormat_eq_ok.mp h
    exact code_of_ofCode_format hf ▸ .encs len f
  · exact operation_of_needFormat .dec h
  · exact operation_of_needFormat .cmpeq h
  · exact operation_of_needLanes .vclamp h
  · exact operation_of_needLanes .vround h
  · exact operation_of_needLanes .vtrunc h
  · exact operation_of_needLanes .vsat h
  · exact operation_of_needLanes .vmadd h
  · cases h

/-- The fields of an operation's word are those of its instruction. -/
theorem Operation.fields_eq {c : CmdFields} (h : Operation c i) : i.fields = c := by
  cases h with
  | fromp f | pack f | unpack f | enc f | encs len f | dec f | cmpeq f => cases f <;> rfl
  | vclamp n | vround n | vtrunc n | vsat n | vmadd n => cases n <;> rfl

/-- Row by row: the fields of an instruction decode to it. -/
theorem decodeOp_fields (i : Instr) : decodeOp i.fields.op i.fields.fmt i.fields.len = .ok i := by
  cases i <;> rfl

/-- Every instruction is one of the twelve operations. -/
theorem exists_operation (i : Instr) : ∃ c, Operation c i := ⟨_, operation_of_decodeOp (decodeOp_fields i)⟩

/-- On the fields of a word, decoding is the inverse of `Instr.fields`. -/
theorem decodeOp_eq_ok_iff : decodeOp op fmt len = .ok i ↔ i.fields = ⟨op, fmt, len⟩ := by
  refine ⟨fun h => (operation_of_decodeOp h).fields_eq, fun h => ?_⟩
  have hi := decodeOp_fields i
  rwa [h] at hi

/-- Well formed means that the `LEN` field has 3 bits (30_encoding R63). -/
theorem wellFormed_eq (i : Instr) : i.wellFormed = decide (i.fields.len < 8) := by cases i <;> rfl

theorem fields_op_lt (i : Instr) : i.fields.op < 16 := by
  obtain ⟨c, h⟩ := exists_operation i
  rw [h.fields_eq]
  cases h <;> simp

theorem format_code_lt (f : Format) : f.code < 32 := by cases f <;> decide

theorem lanes_code_lt (n : Lanes) : n.code < 32 := by cases n <;> decide

theorem fields_fmt_lt (i : Instr) : i.fields.fmt < 32 := by
  obtain ⟨c, h⟩ := exists_operation i
  rw [h.fields_eq]
  cases h with
  | fromp f | pack f | unpack f | enc f | encs len f | dec f | cmpeq f => exact format_code_lt f
  | vclamp n | vround n | vtrunc n | vsat n | vmadd n => exact lanes_code_lt n

end Fields

/-! The fields of a word as arithmetic on it (30_encoding R60). -/

theorem cmdRsv_eq (w : Cmd) : cmdRsv w = w.toNat / 4096 := by
  have hw : w.toNat < 2 ^ 16 := w.isLt
  simp only [cmdRsv, BitVec.extractLsb'_toNat, Nat.shiftRight_eq_div_pow]
  omega

theorem cmdLen_eq (w : Cmd) : cmdLen w = w.toNat / 512 % 8 := by
  simp [cmdLen, BitVec.extractLsb'_toNat, Nat.shiftRight_eq_div_pow]

theorem cmdFmt_eq (w : Cmd) : cmdFmt w = w.toNat / 16 % 32 := by
  simp [cmdFmt, BitVec.extractLsb'_toNat, Nat.shiftRight_eq_div_pow]

theorem cmdOp_eq (w : Cmd) : cmdOp w = w.toNat % 16 := by
  simp [cmdOp, BitVec.extractLsb'_toNat]

/-- The word of an instruction as a number; of a count above 7 only the low 3 bits are in it (assumption log 19). -/
theorem encode_toNat (i : Instr) :
    (encode i).toNat = i.fields.len % 8 * 512 + i.fields.fmt * 16 + i.fields.op := by
  have hop := fields_op_lt i
  have hfmt := fields_fmt_lt i
  have happend : ∀ {v w : Nat} (x : BitVec v) (y : BitVec w), (x ++ y).toNat = x.toNat * 2 ^ w + y.toNat :=
    fun x y => by rw [BitVec.toNat_append, ← Nat.shiftLeft_add_eq_or_of_lt y.isLt, Nat.shiftLeft_eq]
  simp only [encode, happend, BitVec.toNat_ofNat]
  omega

/-- Decoding a word that was encoded: its fields come back, `LEN` in its 3 bits. -/
theorem decode_encode (i : Instr) : decode (encode i) = decodeOp i.fields.op i.fields.fmt (i.fields.len % 8) := by
  have hop := fields_op_lt i
  have hfmt := fields_fmt_lt i
  have hlen : i.fields.len % 8 < 8 := Nat.mod_lt _ (by decide)
  rw [decode, cmdRsv_eq, cmdOp_eq, cmdFmt_eq, cmdLen_eq, encode_toNat, if_pos (by omega)]
  congr 1 <;> omega

/-- The word of a well-formed instruction decodes to it. -/
theorem decode_encode_of_wellFormed {i : Instr} (h : i.wellFormed = true) : decode (encode i) = .ok i := by
  rw [wellFormed_eq, decide_eq_true_eq] at h
  rw [decode_encode, Nat.mod_eq_of_lt h, decodeOp_fields]

/-- An ENCS word keeps the low 3 bits of the count (assumption log 19). -/
theorem decode_encode_encs (len : Nat) (f : Format) : decode (encode (.encs len f)) = .ok (.encs (len % 8) f) := by
  rw [decode_encode, (Operation.encs len f).fields_eq, decodeOp_eq_ok_iff, (Operation.encs (len % 8) f).fields_eq]

/-- Every decoded instruction is well formed: the `LEN` field has 3 bits (30_encoding R63). -/
theorem wellFormed_of_decode {w : Cmd} {i : Instr} (h : decode w = .ok i) : i.wellFormed = true := by
  unfold decode at h
  split at h
  · rw [wellFormed_eq, decodeOp_eq_ok_iff.mp h, decide_eq_true_eq, cmdLen_eq]
    exact Nat.mod_lt _ (by decide)
  · cases h

end Sys2Proof.Machine
end

section
/-!
PROOFS. What each of the twelve operations answers, one equation per operation for all formats or lane counts; from them,
that every instruction responds from the latched request alone and changes nothing else (10_state R20).
-/

namespace Sys2Proof.Machine

theorem exec_fromp (f : Format) (s : State) :
    exec (.fromp f) s = .next (respond .ok (packedResult f.width s.latch.a) s) := by
  cases f <;> rfl

theorem exec_pack (f : Format) (s : State) :
    exec (.pack f) s = .next (respondFields f.bits f.arity (fun i => storeInt f.bits (lane s.latch.a i)) s) := by
  cases f <;> rfl

theorem exec_unpack (f : Format) (s : State) :
    exec (.unpack f) s = .next (respondFields 32 f.arity (fun i =>
      if f.signed then readSigned f.bits (field f.bits i s.latch.a)
      else readUnsigned f.bits (field f.bits i s.latch.a)) s) := by
  cases f <;> rfl

theorem exec_enc (f : Format) (s : State) :
    exec (.enc f) s = .next (respondFields f.bits f.arity (fun i => encLane f (lane s.latch.a i)) s) := by
  cases f <;> rfl

theorem exec_encs (len : Nat) (f : Format) (s : State) :
    exec (.encs len f) s = lengthChecked f.arity len (exec (.enc f) s) s := by
  cases f <;> rfl

theorem exec_dec (f : Format) (s : State) :
    exec (.dec f) s = .next (respondFields 32 f.arity (fun i => decLane f (field f.bits i s.latch.a)) s) := by
  cases f <;> rfl

theorem exec_cmpeq (f : Format) (s : State) :
    exec (.cmpeq f) s = .next (respond .ok (verdict (packed f.width s.latch.a == packed f.width s.latch.b)) s) := by
  cases f <;> rfl

theorem exec_vclamp (n : Lanes) (s : State) :
    exec (.vclamp n) s = .next (respondFields 32 n.count (fun i =>
      clamp1 (lane s.latch.a i) (lane s.latch.b i) (lane s.latch.c i)) s) := by
  cases n <;> rfl

theorem exec_vround (n : Lanes) (s : State) :
    exec (.vround n) s = .next (respondFields 32 n.count (fun i => round1 (lane s.latch.a i)) s) := by
  cases n <;> rfl

theorem exec_vtrunc (n : Lanes) (s : State) :
    exec (.vtrunc n) s = .next (respondFields 32 n.count (fun i => trunc1 (lane s.latch.a i)) s) := by
  cases n <;> rfl

theorem exec_vsat (n : Lanes) (s : State) :
    exec (.vsat n) s = .next (respondFields 32 n.count (fun i => sat1 (lane s.latch.a i)) s) := by
  cases n <;> rfl

theorem exec_vmadd (n : Lanes) (s : State) :
    exec (.vmadd n) s = .next (respondFields 32 n.count (fun i =>
      madd1 (lane s.latch.a i) (lane s.latch.b i) (lane s.latch.c i)) s) := by
  cases n <;> rfl

/-- Presenting a response changes nothing else. -/
theorem onlyResponse_respond (st : Status) (r : Bus) (s : State) : OnlyResponse s (respond st r s) := rfl

/-- Every instruction ends in `respond`, with a status and a result that the latched request alone decides (00_scope R10,
10_state R20). -/
theorem exec_eq_respond (i : Instr) (q : Request) :
    ∃ st r, ∀ s : State, s.latch = q → exec i s = .next (respond st r s) := by
  obtain ⟨c, h⟩ := exists_operation i
  cases h with
  | fromp f => exact ⟨_, _, fun s hq => hq ▸ exec_fromp f s⟩
  | pack f => exact ⟨_, _, fun s hq => hq ▸ exec_pack f s⟩
  | unpack f => exact ⟨_, _, fun s hq => hq ▸ exec_unpack f s⟩
  | enc f => exact ⟨_, _, fun s hq => hq ▸ exec_enc f s⟩
  | encs len f =>
    by_cases hlen : len < f.arity
    · exact ⟨_, _, fun s _ => by rw [exec_encs, lengthChecked, if_pos hlen, raise]⟩
    · exact ⟨_, _, fun s hq => by rw [exec_encs, lengthChecked, if_neg hlen, exec_enc, hq, respondFields]⟩
  | dec f => exact ⟨_, _, fun s hq => hq ▸ exec_dec f s⟩
  | cmpeq f => exact ⟨_, _, fun s hq => hq ▸ exec_cmpeq f s⟩
  | vclamp n => exact ⟨_, _, fun s hq => hq ▸ exec_vclamp n s⟩
  | vround n => exact ⟨_, _, fun s hq => hq ▸ exec_vround n s⟩
  | vtrunc n => exact ⟨_, _, fun s hq => hq ▸ exec_vtrunc n s⟩
  | vsat n => exact ⟨_, _, fun s hq => hq ▸ exec_vsat n s⟩
  | vmadd n => exact ⟨_, _, fun s hq => hq ▸ exec_vmadd n s⟩

/-- Running the latched word ends in `respond` too, an illegal word included (60_exceptions R241). -/
theorem runLatched_eq_respond (q : Request) :
    ∃ st r, ∀ s : State, s.latch = q → runLatched s = .next (respond st r s) := by
  cases h : decode q.cmd with
  | ok i =>
    obtain ⟨st, r, hexec⟩ := exec_eq_respond i q
    exact ⟨st, r, fun s hq => by rw [runLatched, hq, h]; exact hexec s hq⟩
  | error e => exact ⟨_, _, fun s hq => by rw [runLatched, hq, h]; rfl⟩

/-- Settles O7: every instruction ends in `respond`. -/
theorem execChangesOnlyTheResponse : Obligations.ExecChangesOnlyTheResponse := by
  intro i s
  obtain ⟨st, r, hexec⟩ := exec_eq_respond i s.latch
  exact ⟨_, hexec s rfl, onlyResponse_respond st r s⟩

/-- The state `answer` reads: just after reset, with a request in the latch. -/
def State.latched (q : Request) : State := { State.reset with latch := q }

/-- The answer to a request is the response that running it in `State.latched` presents. -/
theorem answer_of_runLatched {q : Request} {st : Status} {r : Bus}
    (h : runLatched (.latched q) = .next (respond st r (.latched q))) : answer q = ⟨st.code, r⟩ := by
  unfold State.latched at h
  rw [answer, h]
  rfl

/-- Settles O8: the response that `runLatched` presents in any state is the one it presents in the state `answer` reads. -/
theorem answerDependsOnTheRequestOnly : Obligations.AnswerDependsOnTheRequestOnly := by
  intro s
  obtain ⟨st, r, hrun⟩ := runLatched_eq_respond s.latch
  exact ⟨_, hrun s rfl, onlyResponse_respond st r s, answer_of_runLatched (hrun _ rfl)⟩

end Sys2Proof.Machine
end

section
/-!
PROOFS. The answer to each operation's command as a function of its operands, and from it the bits of the operands that an
operation names (10_state R24, 30_encoding R64).
-/

namespace Sys2Proof.Machine

section Answers

variable (f : Format) (n : Lanes) (a b c : Bus)

/-- The answer to a command is the response of the instruction its word decodes to. -/
theorem answer_command {i j : Instr} {st : Status} {r : Bus} (hdecode : decode (encode i) = .ok j)
    (hexec : exec j (.latched (command i a b c)) = .next (respond st r (.latched (command i a b c)))) :
    answer (command i a b c) = ⟨st.code, r⟩ := by
  refine answer_of_runLatched ?_
  have hcmd : decode (State.latched (command i a b c)).latch.cmd = .ok j := hdecode
  rw [runLatched, hcmd]
  exact hexec

/-- The answer to a command of an operation other than ENCS, which ends in `respond .ok`. -/
theorem Operation.answer_ok {op fmt : Nat} {i : Instr} {r : Bus} (h : Operation ⟨op, fmt, 0⟩ i)
    (hexec : exec i (.latched (command i a b c)) = .next (respond .ok r (.latched (command i a b c)))) :
    answer (command i a b c) = ⟨0, r⟩ :=
  answer_command a b c (decode_encode_of_wellFormed (by rw [wellFormed_eq, h.fields_eq]; rfl)) hexec

theorem answer_fromp : answer (command (.fromp f) a b c) = ⟨0, packedResult f.width a⟩ :=
  (Operation.fromp f).answer_ok a b c (exec_fromp f _)

theorem answer_pack : answer (command (.pack f) a b c) =
    ⟨0, packFields f.bits (fun i => storeInt f.bits (lane a i)) f.arity⟩ :=
  (Operation.pack f).answer_ok a b c (exec_pack f _)

theorem answer_unpack : answer (command (.unpack f) a b c) =
    ⟨0, packFields 32 (fun i => if f.signed then readSigned f.bits (field f.bits i a)
      else readUnsigned f.bits (field f.bits i a)) f.arity⟩ :=
  (Operation.unpack f).answer_ok a b c (exec_unpack f _)

theorem answer_enc : answer (command (.enc f) a b c) =
    ⟨0, packFields f.bits (fun i => encLane f (lane a i)) f.arity⟩ :=
  (Operation.enc f).answer_ok a b c (exec_enc f _)

/-- ENCS with too small a count answers without a look at the operands, else as ENC (42_encode R190). -/
theorem answer_encs (len : Nat) : answer (command (.encs len f) a b c) =
    if len % 8 < f.arity then ⟨1, 0⟩ else answer (command (.enc f) a b c) := by
  have hencs := exec_encs (len % 8) f (.latched (command (.encs len f) a b c))
  split
  · next hlen =>
    rw [lengthChecked, if_pos hlen, raise] at hencs
    exact answer_command a b c (decode_encode_encs len f) hencs
  · next hlen =>
    rw [lengthChecked, if_neg hlen, exec_enc] at hencs
    rw [answer_enc]
    exact answer_command a b c (decode_encode_encs len f) hencs

theorem answer_dec : answer (command (.dec f) a b c) =
    ⟨0, packFields 32 (fun i => decLane f (field f.bits i a)) f.arity⟩ :=
  (Operation.dec f).answer_ok a b c (exec_dec f _)

theorem answer_cmpeq : answer (command (.cmpeq f) a b c) = ⟨0, verdict (packed f.width a == packed f.width b)⟩ :=
  (Operation.cmpeq f).answer_ok a b c (exec_cmpeq f _)

theorem answer_vclamp : answer (command (.vclamp n) a b c) =
    ⟨0, packFields 32 (fun i => clamp1 (lane a i) (lane b i) (lane c i)) n.count⟩ :=
  (Operation.vclamp n).answer_ok a b c (exec_vclamp n _)

theorem answer_vround : answer (command (.vround n) a b c) =
    ⟨0, packFields 32 (fun i => round1 (lane a i)) n.count⟩ :=
  (Operation.vround n).answer_ok a b c (exec_vround n _)

theorem answer_vtrunc : answer (command (.vtrunc n) a b c) =
    ⟨0, packFields 32 (fun i => trunc1 (lane a i)) n.count⟩ :=
  (Operation.vtrunc n).answer_ok a b c (exec_vtrunc n _)

theorem answer_vsat : answer (command (.vsat n) a b c) =
    ⟨0, packFields 32 (fun i => sat1 (lane a i)) n.count⟩ :=
  (Operation.vsat n).answer_ok a b c (exec_vsat n _)

theorem answer_vmadd : answer (command (.vmadd n) a b c) =
    ⟨0, packFields 32 (fun i => madd1 (lane a i) (lane b i) (lane c i)) n.count⟩ :=
  (Operation.vmadd n).answer_ok a b c (exec_vmadd n _)

end Answers

/-- A result depends on the fields it is made of. -/
theorem packFields_congr {w n : Nat} {f g : Nat → BitVec w} (h : ∀ i, i < n → f i = g i) :
    packFields w f n = packFields w g n := by
  induction n with
  | zero => rfl
  | succ n ih => rw [packFields, packFields, ih fun i hi => h i (by omega), h n (by omega)]

/-- A stored component depends on the low bits of its lane. -/
theorem storeInt_congr {w : Nat} {x y : Lane} (h : x.toNat % 2 ^ w = y.toNat % 2 ^ w) : storeInt w x = storeInt w y :=
  BitVec.eq_of_toNat_eq (by rw [storeInt_toNat, storeInt_toNat, h])

/-- A field of a packed integer lies within the integer's bits. -/
theorem field_congr {w m i : Nat} {x y : Bus} (h : packed (m * w) x = packed (m * w) y) (hi : i < m) :
    field w i x = field w i y := by
  apply BitVec.eq_of_getLsbD_eq
  intro k hk
  have hbit : w * i + k < m * w := by
    calc w * i + k < w * (i + 1) := by rw [Nat.mul_succ]; omega
      _ ≤ m * w := by rw [Nat.mul_comm m]; exact Nat.mul_le_mul_left w hi
  have hxy := congrArg (fun p => p.getLsbD (w * i + k)) h
  rw [field_getLsbD, field_getLsbD]
  simpa [packed, BitVec.getLsbD_extractLsb', hbit, hk] using hxy

/-- FROMP, UNPACK, DEC and CMPEQ read the packed integers of their operands. -/
theorem answers_of_packed_eq {f : Format} {a a' : Bus} (b b' c c' : Bus)
    (ha : packed f.width a = packed f.width a') :
    answer (command (.fromp f) a b c) = answer (command (.fromp f) a' b' c') ∧
    answer (command (.unpack f) a b c) = answer (command (.unpack f) a' b' c') ∧
    answer (command (.dec f) a b c) = answer (command (.dec f) a' b' c') ∧
    (packed f.width b = packed f.width b' →
      answer (command (.cmpeq f) a b c) = answer (command (.cmpeq f) a' b' c')) := by
  have hfield : ∀ i, i < f.arity → field f.bits i a = field f.bits i a' := fun i hi => field_congr ha hi
  refine ⟨?_, ?_, ?_, fun hb => ?_⟩
  · rw [answer_fromp, answer_fromp, packedResult, packedResult, ha]
  · rw [answer_unpack, answer_unpack, packFields_congr fun i hi => by rw [hfield i hi]]
  · rw [answer_dec, answer_dec, packFields_congr fun i hi => by rw [hfield i hi]]
  · rw [answer_cmpeq, answer_cmpeq, ha, hb]

/-- ENC and ENCS read the first lanes of `A`. -/
theorem answers_of_lanes_eq {f : Format} {a a' : Bus} (len : Nat) (b b' c c' : Bus)
    (ha : ∀ i, i < f.arity → lane a i = lane a' i) :
    answer (command (.enc f) a b c) = answer (command (.enc f) a' b' c') ∧
    answer (command (.encs len f) a b c) = answer (command (.encs len f) a' b' c') := by
  have henc : answer (command (.enc f) a b c) = answer (command (.enc f) a' b' c') := by
    rw [answer_enc, answer_enc, packFields_congr fun i hi => by rw [ha i hi]]
  exact ⟨henc, by rw [answer_encs, answer_encs, henc]⟩

/-- Settles O9: each operation's answer is made of the bits it names. -/
theorem unnamedOperandBitsHaveNoEffect : Obligations.UnnamedOperandBitsHaveNoEffect := by
  refine ⟨fun f a a' b b' c c' ha => ?_, fun f a a' b b' c c' ha => ?_, fun f len a a' b b' c c' ha => ?_,
    fun n a a' b b' c c' ha => ⟨?_, ?_, ?_, fun hbc => ⟨?_, ?_⟩⟩⟩
  · rw [← packed_eq_iff] at ha
    rw [← packed_eq_iff]
    exact answers_of_packed_eq b b' c c' ha
  · rw [answer_pack, answer_pack, packFields_congr fun i hi => storeInt_congr (ha i hi)]
  · exact answers_of_lanes_eq len b b' c c' ha
  · rw [answer_vround, answer_vround, packFields_congr fun i hi => by rw [ha i hi]]
  · rw [answer_vtrunc, answer_vtrunc, packFields_congr fun i hi => by rw [ha i hi]]
  · rw [answer_vsat, answer_vsat, packFields_congr fun i hi => by rw [ha i hi]]
  · rw [answer_vclamp, answer_vclamp,
      packFields_congr fun i hi => by rw [ha i hi, (hbc i hi).1, (hbc i hi).2]]
  · rw [answer_vmadd, answer_vmadd,
      packFields_congr fun i hi => by rw [ha i hi, (hbc i hi).1, (hbc i hi).2]]

end Sys2Proof.Machine
end

section
/-!
PROOFS. The transaction, edge by edge (10_state R22, R23, R33; 70_reset_and_hazards R270 to R277): what each edge does to the
invariant, and to two states that the host cannot tell apart.
-/

namespace Sys2Proof.Machine

/-- An idle state meets the invariant: there is no response and no request it speaks of. -/
theorem inv_of_idle {s : State} (hbusy : s.busy = false) (hvalid : s.rspValid = false) : s.Inv := by
  simp [State.Inv, hbusy, hvalid]

/-- A waiting request meets the invariant while it has waited fewer than `LATENCY` edges. -/
theorem inv_of_waiting {s : State} (hvalid : s.rspValid = false) (helapsed : s.elapsed < max 1 s.latency) : s.Inv := by
  simp only [State.Inv, hvalid]
  exact ⟨by simp, fun _ _ => helapsed⟩

/-- A presented response to the latched request meets the invariant. -/
theorem inv_of_presenting {s : State} (hbusy : s.busy = true) (hvalid : s.rspValid = true)
    (hanswer : answer s.latch = ⟨s.rspStatus, s.rspData⟩) : s.Inv := by
  simp [State.Inv, hbusy, hvalid, hanswer]

/-- The host's levels are no part of the invariant. -/
theorem inv_hostDrives {s : State} : (hostDrives s).Inv ↔ s.Inv := Iff.rfl

/-- The response is due when the edges waited, this one included, reach `LATENCY`. -/
theorem due_eq_false_iff {s : State} : s.due = false ↔ s.elapsed + 1 < s.latency := by
  simp [State.due]

theorem due_eq_true_iff {s : State} : s.due = true ↔ s.latency ≤ s.elapsed + 1 := decide_eq_true_iff

/-- Running the latched word presents the answer to the latched request. -/
theorem inv_of_runLatched {s t : State} (hbusy : s.busy = true) (h : runLatched s = .next t) : t.Inv := by
  obtain ⟨st, r, hrun⟩ := runLatched_eq_respond s.latch
  obtain rfl : respond st r s = t := by
    have hs := hrun s rfl
    rw [h] at hs
    cases hs
    rfl
  exact inv_of_presenting hbusy rfl (answer_of_runLatched (hrun _ rfl))

/-- Settles O12, by the cases of an edge: an idle edge leaves nothing to check, the accepting and the waiting edges keep the
count below `LATENCY`, and the due edge presents the answer to the latch. -/
theorem everyStepKeepsInv : Obligations.EveryStepKeepsInv := by
  intro s t hinv hstep
  rcases step_cases hstep with ⟨-, rfl⟩ | ⟨-, -, -, rfl⟩ | ⟨-, -, -, rfl⟩ | ⟨-, -, hbusy, -, u, hrun, rfl⟩ |
    ⟨-, -, -, hdue, rfl⟩ | ⟨-, -, -, -, rfl⟩ | ⟨-, -, -, -, rfl⟩ <;> rw [inv_hostDrives]
  · exact inv_of_idle rfl rfl
  · exact inv_of_idle rfl rfl
  · exact hinv
  · exact inv_of_runLatched hbusy hrun
  · rw [due_eq_false_iff] at hdue
    exact inv_of_waiting rfl (lt_max_of_lt_right hdue)
  · exact inv_of_waiting rfl (lt_max_of_lt_left Nat.one_pos)
  · exact inv_of_idle rfl rfl

/-- Settles O5: the due edge runs the latched word, and a decoded word's `LEN` has 3 bits. -/
theorem stepRunsTheDecodedInstruction : Obligations.StepRunsTheDecodedInstruction := by
  intro s i hrst hvalid hbusy hdue hdecode
  refine ⟨wellFormed_of_decode hdecode, ?_⟩
  rw [step_run hrst hvalid hbusy (due_eq_true_iff.mpr hdue), runLatched, hdecode]

/-- Settles O11: the reset state is idle. -/
theorem resetIsIdle : Obligations.ResetIsIdle :=
  ⟨reset_busy, reset_rspValid, by rw [State.reqReady, reset_busy]; rfl, inv_of_idle reset_busy reset_rspValid⟩

/-- Settles O16: the edge is the accepting one. -/
theorem requestAcceptedWhenReady : Obligations.RequestAcceptedWhenReady :=
  fun s hrst hreq hbusy hvalid => ⟨_, step_accept hrst hvalid hbusy hreq, acceptEdge_busy s, acceptEdge_latch s,
    acceptEdge_rspValid s, acceptEdge_taken s⟩

/-- Settles O19: the edge is the taking one. -/
theorem responseIsTaken : Obligations.ResponseIsTaken :=
  fun s hrst hvalid hready => ⟨_, step_take hrst hvalid hready, takeEdge_busy s, takeEdge_rspValid s, takeEdge_taken s⟩

end Sys2Proof.Machine
end

section
/-!
PROOFS. What the host cannot see (10_state R33; 93_implementation_defined S5, S6): each kind of edge takes two states of the
same view to two states of the same view.
-/

namespace Sys2Proof.Machine

section View

variable {s t : State}

/-- The host's levels are driven from what the view shows. -/
theorem SameView.hostDrives (h : SameView s t) : SameView (hostDrives s) (hostDrives t) := by
  obtain ⟨hpins, hmoves, hrest⟩ := h
  refine ⟨?_, ?_, hrest⟩
  · rw [hostDrives_pins, hostDrives_pins, hpins, hmoves]
  · rw [hostDrives_moves, hostDrives_moves, hmoves]

/-- Two idle states look the same when the host, `LATENCY` and the responses taken are the same: all else of an idle block is
unobservable. -/
theorem sameView_goIdle (hpins : s.pins = t.pins) (hmoves : s.moves = t.moves) (hlatency : s.latency = t.latency)
    (htaken : s.taken = t.taken) : SameView (goIdle s) (goIdle t) :=
  ⟨hpins, hmoves, hlatency, htaken, rfl, rfl, nofun, nofun⟩

theorem SameView.goIdle (h : SameView s t) : SameView (goIdle s) (goIdle t) := by
  obtain ⟨hpins, hmoves, hlatency, htaken, -⟩ := h
  exact sameView_goIdle hpins hmoves hlatency htaken

/-- A presented response is the same in both states, so the same is taken. -/
theorem SameView.takeEdge (h : SameView s t) (hvalid : s.rspValid = true) :
    SameView (takeEdge s) (takeEdge t) := by
  obtain ⟨hpins, hmoves, hlatency, htaken, -, -, -, hresponse⟩ := h
  obtain ⟨hstatus, hdata⟩ := hresponse hvalid
  exact sameView_goIdle hpins hmoves hlatency (by rw [htaken, hstatus, hdata])

/-- The latch is loaded from the ports alone. -/
theorem SameView.acceptEdge (h : SameView s t) : SameView (acceptEdge s) (acceptEdge t) := by
  obtain ⟨hpins, hmoves, hlatency, htaken, -⟩ := h
  exact ⟨hpins, hmoves, hlatency, htaken, rfl, rfl, fun _ => ⟨congrArg Pins.req hpins, rfl⟩, nofun⟩

/-- A request in flight is the same in both states, and so is how long it has waited. -/
theorem SameView.waitEdge (h : SameView s t) : SameView (waitEdge s) (waitEdge t) := by
  obtain ⟨hpins, hmoves, hlatency, htaken, hbusy, -, hlatch, -⟩ := h
  refine ⟨hpins, hmoves, hlatency, htaken, hbusy, rfl, fun hb => ?_, nofun⟩
  obtain ⟨hl, he⟩ := hlatch hb
  exact ⟨hl, congrArg (· + 1) he⟩

/-- The same response is presented in both states. -/
theorem SameView.respond (h : SameView s t) (st : Status) (r : Bus) :
    SameView (respond st r s) (respond st r t) := by
  obtain ⟨hpins, hmoves, hlatency, htaken, hbusy, -, hlatch, -⟩ := h
  exact ⟨hpins, hmoves, hlatency, htaken, hbusy, rfl, hlatch, fun _ => ⟨rfl, rfl⟩⟩

/-- Running the latched word of a busy block presents the same response in both states. -/
theorem SameView.runLatched (h : SameView s t) (hbusy : s.busy = true) :
    ∃ s' t', runLatched s = .next s' ∧ runLatched t = .next t' ∧ SameView s' t' := by
  have ⟨_, _, _, _, _, _, hlatch, _⟩ := h
  obtain ⟨st, r, hrun⟩ := runLatched_eq_respond t.latch
  exact ⟨_, _, hrun s (hlatch hbusy).1, hrun t rfl, h.respond st r⟩

/-- The response of a busy block is due at the same edge in both states. -/
theorem SameView.due_eq (h : SameView s t) (hbusy : s.busy = true) : s.due = t.due := by
  obtain ⟨-, -, hlatency, -, -, -, hlatch, -⟩ := h
  rw [State.due, State.due, hlatency, (hlatch hbusy).2]

/-- Two states of the same view do the same kind of edge, to states of the same view. -/
theorem SameView.step (h : SameView s t) :
    ∃ s' t', step s = .next s' ∧ step t = .next t' ∧ SameView s' t' := by
  have ⟨hpins, _, _, _, hbusy, hvalid, _, _⟩ := h
  cases hr : s.pins.rst with
  | true => exact ⟨_, _, step_reset hr, step_reset (hpins ▸ hr), h.goIdle.hostDrives⟩
  | false =>
    have hr' : t.pins.rst = false := hpins ▸ hr
    cases hv : s.rspValid with
    | true =>
      have hv' : t.rspValid = true := hvalid ▸ hv
      cases hy : s.pins.rspReady with
      | true => exact ⟨_, _, step_take hr hv hy, step_take hr' hv' (hpins ▸ hy), (h.takeEdge hv).hostDrives⟩
      | false => exact ⟨_, _, step_hold hr hv hy, step_hold hr' hv' (hpins ▸ hy), h.hostDrives⟩
    | false =>
      have hv' : t.rspValid = false := hvalid ▸ hv
      cases hb : s.busy with
      | true =>
        have hb' : t.busy = true := hbusy ▸ hb
        have hdue := h.due_eq hb
        cases hd : s.due with
        | true =>
          obtain ⟨u, v, hu, hw, huv⟩ := h.runLatched hb
          refine ⟨_, _, (step_run hr hv hb hd).trans ?_, (step_run hr' hv' hb' (hdue ▸ hd)).trans ?_, huv.hostDrives⟩
          · rw [hu]; rfl
          · rw [hw]; rfl
        | false => exact ⟨_, _, step_wait hr hv hb hd, step_wait hr' hv' hb' (hdue ▸ hd), h.waitEdge.hostDrives⟩
      | false =>
        have hb' : t.busy = false := hbusy ▸ hb
        cases hq : s.pins.reqValid with
        | true => exact ⟨_, _, step_accept hr hv hb hq, step_accept hr' hv' hb' (hpins ▸ hq), h.acceptEdge.hostDrives⟩
        | false => exact ⟨_, _, step_idle hr hv hb hq, step_idle hr' hv' hb' (hpins ▸ hq), h.goIdle.hostDrives⟩

end View

/-- Settles O15: each kind of edge keeps the view. -/
theorem stepsKeepSameView : Obligations.StepsKeepSameView := by
  intro s t s' t' h hs ht
  obtain ⟨u, v, hu, hv, huv⟩ := h.step
  rw [hs] at hu
  rw [ht] at hv
  cases hu
  cases hv
  exact huv

end Sys2Proof.Machine
end

section
/-!
PROOFS. The command word in both directions (30_encoding R60 to R71): the decoder is the inverse of the encoder on the
well-formed instructions, these are the 262 of `legalInstrs`, and their words are those that meet none of the five
conditions of R71.
-/

namespace Sys2Proof.Machine

/-- The four fields are the whole word: what decodes has the fields of its instruction, so it is the instruction's word. -/
theorem encode_of_decode {w : Cmd} {i : Instr} (h : decode w = .ok i) : encode i = w := by
  have hw : w.toNat < 2 ^ 16 := w.isLt
  unfold decode at h
  split at h
  · next hrsv =>
    rw [cmdRsv_eq] at hrsv
    apply BitVec.eq_of_toNat_eq
    rw [encode_toNat, decodeOp_eq_ok_iff.mp h, cmdOp_eq, cmdFmt_eq, cmdLen_eq]
    dsimp only
    omega
  · cases h

/-- Decoding is the inverse of encoding on the well-formed instructions (30_encoding R65). -/
theorem decode_eq_ok_iff {w : Cmd} {i : Instr} : decode w = .ok i ↔ i.wellFormed = true ∧ encode i = w := by
  refine ⟨fun h => ⟨wellFormed_of_decode h, encode_of_decode h⟩, ?_⟩
  rintro ⟨hwf, rfl⟩
  exact decode_encode_of_wellFormed hwf

/-- Settles O1, field by field: a 3-bit `LEN` comes back whole. -/
theorem decodeOfEncodeIsTheInstruction : Obligations.DecodeOfEncodeIsTheInstruction :=
  fun _ => decode_encode_of_wellFormed

/-- Settles O2: the word of the decoded fields is the word. -/
theorem encodeOfDecodeIsTheWord : Obligations.EncodeOfDecodeIsTheWord :=
  fun _ _ => decode_eq_ok_iff.mp

/-- Settles O4: each word is the encoding of the instruction it stands for. -/
theorem commandWordsOfTheSpecDecode : Obligations.CommandWordsOfTheSpecDecode := by
  unfold Obligations.CommandWordsOfTheSpecDecode
  simp only [decode_eq_ok_iff]
  decide

/-! The five conditions of 30_encoding R71. -/

/-- The 18 format codes (30_encoding R66). -/
theorem exists_format_code_iff {fmt : Nat} : (∃ f : Format, f.code = fmt) ↔ fmt ≤ 0x0F ∨ fmt = 0x12 ∨ fmt = 0x13 := by
  refine ⟨?_, fun h => ?_⟩
  · rintro ⟨f, rfl⟩
    cases f <;> decide
  · obtain hlow | rfl | rfl := h
    · interval_cases fmt
      exacts [⟨.uByte2, rfl⟩, ⟨.uByte4, rfl⟩, ⟨.uShort2, rfl⟩, ⟨.uShort4, rfl⟩, ⟨.byte2, rfl⟩, ⟨.byte4, rfl⟩,
        ⟨.short2, rfl⟩, ⟨.short4, rfl⟩, ⟨.uByte2N, rfl⟩, ⟨.uByte4N, rfl⟩, ⟨.uShort2N, rfl⟩, ⟨.uShort4N, rfl⟩,
        ⟨.byte2N, rfl⟩, ⟨.byte4N, rfl⟩, ⟨.short2N, rfl⟩, ⟨.short4N, rfl⟩]
    · exact ⟨.half2, rfl⟩
    · exact ⟨.half4, rfl⟩

/-- The two lane codes: bits 4..1 of `FMT` are zero (30_encoding R62). -/
theorem exists_lanes_code_iff {fmt : Nat} : (∃ n : Lanes, n.code = fmt) ↔ fmt / 2 = 0 := by
  refine ⟨?_, fun h => ?_⟩
  · rintro ⟨n, rfl⟩
    cases n <;> rfl
  · obtain rfl | rfl : fmt = 0 ∨ fmt = 1 := by omega
    exacts [⟨.two, rfl⟩, ⟨.four, rfl⟩]

/-- The fields of an operation's word meet none of the five conditions. -/
theorem Operation.not_illegalFields {op fmt len : Nat} {i : Instr} (h : Operation ⟨op, fmt, len⟩ i) :
    ¬IllegalFields 0 len fmt op := by
  unfold IllegalFields
  cases h with
  | fromp f | pack f | unpack f | enc f | encs len f | dec f | cmpeq f =>
    have hcode := exists_format_code_iff.mp ⟨f, rfl⟩
    omega
  | vclamp n | vround n | vtrunc n | vsat n | vmadd n =>
    have hcode := exists_lanes_code_iff.mp ⟨n, rfl⟩
    omega

/-- Fields that meet none of the five conditions are those of an operation. -/
theorem operation_of_not_illegalFields {op fmt len : Nat} (hop : op < 16) (h : ¬IllegalFields 0 len fmt op) :
    ∃ i, Operation ⟨op, fmt, len⟩ i := by
  unfold IllegalFields at h
  rcases Nat.lt_or_ge op 8 with hlt | hge
  · obtain ⟨f, rfl⟩ := exists_format_code_iff.mpr (show fmt ≤ 0x0F ∨ fmt = 0x12 ∨ fmt = 0x13 by omega)
    by_cases hencs : op = 5
    · exact hencs ▸ ⟨_, .encs len f⟩
    · obtain rfl : len = 0 := by omega
      obtain rfl | rfl | rfl | rfl | rfl | rfl : op = 1 ∨ op = 2 ∨ op = 3 ∨ op = 4 ∨ op = 6 ∨ op = 7 := by omega
      exacts [⟨_, .fromp f⟩, ⟨_, .pack f⟩, ⟨_, .unpack f⟩, ⟨_, .enc f⟩, ⟨_, .dec f⟩, ⟨_, .cmpeq f⟩]
  · obtain ⟨n, rfl⟩ := exists_lanes_code_iff.mpr (show fmt / 2 = 0 by omega)
    obtain rfl : len = 0 := by omega
    obtain rfl | rfl | rfl | rfl | rfl : op = 8 ∨ op = 9 ∨ op = 10 ∨ op = 11 ∨ op = 12 := by omega
    exacts [⟨_, .vclamp n⟩, ⟨_, .vround n⟩, ⟨_, .vtrunc n⟩, ⟨_, .vsat n⟩, ⟨_, .vmadd n⟩]

/-- A word decodes exactly when it meets none of the five conditions (30_encoding R71). -/
theorem not_illegalWord_iff {w : Cmd} : ¬IllegalWord w ↔ ∃ i, decode w = .ok i := by
  have hop : w.toNat % 16 < 16 := Nat.mod_lt _ (by decide)
  rw [IllegalWord, decode, cmdRsv_eq, cmdOp_eq, cmdFmt_eq, cmdLen_eq]
  split
  · next hrsv =>
    rw [hrsv]
    constructor
    · intro h
      obtain ⟨i, hi⟩ := operation_of_not_illegalFields hop h
      exact ⟨i, decodeOp_eq_ok_iff.mpr hi.fields_eq⟩
    · rintro ⟨i, hi⟩
      exact (operation_of_decodeOp hi).not_illegalFields
  · next hrsv => simp [IllegalFields, hrsv]

/-! The legal instructions: those of each format, then those of each lane count. -/

/-- The instructions of one format in `legalInstrs`. -/
def formatInstrs (f : Format) : List Instr :=
  [Instr.fromp f, Instr.pack f, Instr.unpack f, Instr.enc f] ++ (List.range 8).map (fun len => Instr.encs len f) ++
    [Instr.dec f, Instr.cmpeq f]

/-- The instructions of one lane count in `legalInstrs`. -/
def lanesInstrs (n : Lanes) : List Instr := [.vclamp n, .vround n, .vtrunc n, .vsat n, .vmadd n]

theorem legalInstrs_eq :
    legalInstrs = Format.all.flatMap formatInstrs ++ [Lanes.two, Lanes.four].flatMap lanesInstrs := rfl

theorem length_legalInstrs : legalInstrs.length = 262 := by
  simp [legalInstrs_eq, formatInstrs, lanesInstrs, Format.all]

theorem mem_formatAll (f : Format) : f ∈ Format.all := by cases f <;> decide

theorem operation_of_mem_formatInstrs {f : Format} {i : Instr} (h : i ∈ formatInstrs f) :
    ∃ op len, op < 8 ∧ len < 8 ∧ Operation ⟨op, f.code, len⟩ i := by
  simp only [formatInstrs, List.mem_append, List.mem_cons, List.mem_map, List.mem_range, List.not_mem_nil,
    or_false] at h
  obtain ((rfl | rfl | rfl | rfl) | ⟨len, hlen, rfl⟩) | rfl | rfl := h
  · exact ⟨_, _, by decide, by decide, .fromp f⟩
  · exact ⟨_, _, by decide, by decide, .pack f⟩
  · exact ⟨_, _, by decide, by decide, .unpack f⟩
  · exact ⟨_, _, by decide, by decide, .enc f⟩
  · exact ⟨_, _, by decide, hlen, .encs len f⟩
  · exact ⟨_, _, by decide, by decide, .dec f⟩
  · exact ⟨_, _, by decide, by decide, .cmpeq f⟩

theorem operation_of_mem_lanesInstrs {n : Lanes} {i : Instr} (h : i ∈ lanesInstrs n) :
    ∃ op, 8 ≤ op ∧ Operation ⟨op, n.code, 0⟩ i := by
  simp only [lanesInstrs, List.mem_cons, List.not_mem_nil, or_false] at h
  obtain rfl | rfl | rfl | rfl | rfl := h
  · exact ⟨_, by decide, .vclamp n⟩
  · exact ⟨_, by decide, .vround n⟩
  · exact ⟨_, by decide, .vtrunc n⟩
  · exact ⟨_, by decide, .vsat n⟩
  · exact ⟨_, by decide, .vmadd n⟩

/-- The list holds the well-formed instructions. -/
theorem mem_legalInstrs_iff {i : Instr} : i ∈ legalInstrs ↔ i.wellFormed = true := by
  rw [legalInstrs_eq, List.mem_append, List.mem_flatMap, List.mem_flatMap, wellFormed_eq, decide_eq_true_eq]
  constructor
  · rintro (⟨f, -, hi⟩ | ⟨n, -, hi⟩)
    · obtain ⟨op, len, -, hlen, h⟩ := operation_of_mem_formatInstrs hi
      rwa [h.fields_eq]
    · obtain ⟨op, -, h⟩ := operation_of_mem_lanesInstrs hi
      rw [h.fields_eq]
      exact Nat.zero_lt_succ 7
  · intro hlen
    obtain ⟨c, h⟩ := exists_operation i
    rw [h.fields_eq] at hlen
    cases h with
    | encs len f =>
      refine .inl ⟨f, mem_formatAll f, List.mem_append_left _ (List.mem_append_right _ ?_)⟩
      exact List.mem_map.mpr ⟨len, List.mem_range.mpr hlen, rfl⟩
    | fromp f | pack f | unpack f | enc f | dec f | cmpeq f =>
      exact .inl ⟨f, mem_formatAll f, by simp [formatInstrs]⟩
    | vclamp n | vround n | vtrunc n | vsat n | vmadd n =>
      exact .inr ⟨n, by cases n <;> simp, by simp [lanesInstrs]⟩

/-- Formats differ in `FMT`, so no instruction is of two formats. -/
theorem formatInstrs_disjoint {f g : Format} (hne : f.code ≠ g.code) : (formatInstrs f).Disjoint (formatInstrs g) := by
  intro i hf hg
  obtain ⟨_, _, -, -, h⟩ := operation_of_mem_formatInstrs hf
  obtain ⟨_, _, -, -, h'⟩ := operation_of_mem_formatInstrs hg
  exact hne (congrArg CmdFields.fmt (h.fields_eq.symm.trans h'.fields_eq))

theorem lanesInstrs_disjoint {n m : Lanes} (hne : n.code ≠ m.code) : (lanesInstrs n).Disjoint (lanesInstrs m) := by
  intro i hn hm
  obtain ⟨_, -, h⟩ := operation_of_mem_lanesInstrs hn
  obtain ⟨_, -, h'⟩ := operation_of_mem_lanesInstrs hm
  exact hne (congrArg CmdFields.fmt (h.fields_eq.symm.trans h'.fields_eq))

/-- The format operations and the helpers differ in `OP`. -/
theorem formatInstrs_lanesInstrs_disjoint (f : Format) (n : Lanes) : (formatInstrs f).Disjoint (lanesInstrs n) := by
  intro i hf hn
  obtain ⟨op, _, hlt, -, h⟩ := operation_of_mem_formatInstrs hf
  obtain ⟨op', hge, h'⟩ := operation_of_mem_lanesInstrs hn
  have hop : op = op' := congrArg CmdFields.op (h.fields_eq.symm.trans h'.fields_eq)
  omega

/-- Within a format, `OP` and `LEN` tell the instructions apart. -/
theorem nodup_formatInstrs (f : Format) : (formatInstrs f).Nodup := by
  have hopLen : ((formatInstrs f).map fun i => (i.fields.op, i.fields.len)).Nodup := by cases f <;> decide
  exact .of_map _ hopLen

/-- Within a lane count, `OP` tells the instructions apart. -/
theorem nodup_lanesInstrs (n : Lanes) : (lanesInstrs n).Nodup := by
  have hop : ((lanesInstrs n).map fun i => i.fields.op).Nodup := by cases n <;> decide
  exact .of_map _ hop

theorem nodup_legalInstrs : legalInstrs.Nodup := by
  have hformats : Format.all.Pairwise (fun f g => f.code ≠ g.code) := by decide
  have hlanes : [Lanes.two, Lanes.four].Pairwise (fun n m => n.code ≠ m.code) := by decide
  rw [legalInstrs_eq]
  refine List.Nodup.append ?_ ?_ fun i hi hi' => ?_
  · exact List.nodup_flatMap.mpr ⟨fun f _ => nodup_formatInstrs f, hformats.imp formatInstrs_disjoint⟩
  · exact List.nodup_flatMap.mpr ⟨fun n _ => nodup_lanesInstrs n, hlanes.imp lanesInstrs_disjoint⟩
  · obtain ⟨f, -, hf⟩ := List.mem_flatMap.mp hi
    obtain ⟨n, -, hn⟩ := List.mem_flatMap.mp hi'
    exact formatInstrs_lanesInstrs_disjoint f n hf hn

/-- Two well-formed instructions of one word are what it decodes to. -/
theorem encode_injOn {i j : Instr} (hi : i.wellFormed = true) (hj : j.wellFormed = true) (h : encode i = encode j) :
    i = j := by
  have hdecode := decode_encode_of_wellFormed hi
  rw [h, decode_encode_of_wellFormed hj] at hdecode
  exact (Except.ok.inj hdecode).symm

theorem nodup_encode_legalInstrs : (legalInstrs.map encode).Nodup :=
  nodup_legalInstrs.map_on fun _ hi _ hj => encode_injOn (mem_legalInstrs_iff.mp hi) (mem_legalInstrs_iff.mp hj)

/-- The legal words are those of the legal instructions. -/
theorem not_illegalWord_iff_mem_legalInstrs {w : Cmd} : ¬IllegalWord w ↔ ∃ i ∈ legalInstrs, encode i = w := by
  simp only [not_illegalWord_iff, decode_eq_ok_iff, mem_legalInstrs_iff]

/-! The due edge. -/

/-- Every instruction completes with `OK` or raises `INVALID_ARGUMENT` (60_exceptions R242). -/
theorem exec_ok_or_invalidArgument (i : Instr) (s : State) :
    (∃ r, exec i s = .next (respond .ok r s)) ∨ exec i s = .next (raise .invalidArgument s) := by
  obtain ⟨c, h⟩ := exists_operation i
  cases h with
  | fromp f => exact .inl ⟨_, exec_fromp f s⟩
  | pack f => exact .inl ⟨_, exec_pack f s⟩
  | unpack f => exact .inl ⟨_, exec_unpack f s⟩
  | enc f => exact .inl ⟨_, exec_enc f s⟩
  | encs len f =>
    rw [exec_encs]
    obtain ⟨-, hshort⟩ | ⟨-, hfull⟩ := lengthChecked_cases f.arity len (exec (.enc f) s) s
    · exact .inr hshort
    · exact .inl ⟨_, hfull.trans (exec_enc f s)⟩
  | dec f => exact .inl ⟨_, exec_dec f s⟩
  | cmpeq f => exact .inl ⟨_, exec_cmpeq f s⟩
  | vclamp n => exact .inl ⟨_, exec_vclamp n s⟩
  | vround n => exact .inl ⟨_, exec_vround n s⟩
  | vtrunc n => exact .inl ⟨_, exec_vtrunc n s⟩
  | vsat n => exact .inl ⟨_, exec_vsat n s⟩
  | vmadd n => exact .inl ⟨_, exec_vmadd n s⟩

/-- No instruction answers `ILLEGAL_COMMAND`. -/
theorem exec_status_ne_illegalCommand (i : Instr) (s : State) : ∃ t, exec i s = .next t ∧ t.rspStatus ≠ 2 := by
  obtain ⟨r, h⟩ | h := exec_ok_or_invalidArgument i s
  · exact ⟨_, h, by rw [respond_rspStatus]; decide⟩
  · exact ⟨_, h, by rw [raise_rspStatus]; decide⟩

/-- An illegal word is raised, and nothing else happens (30_encoding R71). -/
theorem runLatched_of_illegalWord {s : State} (h : IllegalWord s.latch.cmd) :
    runLatched s = .next (raise .illegalCommand s) := by
  obtain ⟨i, hdecode, -⟩ | ⟨_, -, hrun⟩ := runLatched_cases s
  · exact absurd h (not_illegalWord_iff.mpr ⟨i, hdecode⟩)
  · exact hrun

/-- Settles O3: the words that meet none of the conditions are those that decode, which are those of the well-formed
instructions, and only an illegal word is answered with status 10. -/
theorem illegalWordsAnswerIllegalCommand : Obligations.IllegalWordsAnswerIllegalCommand := by
  refine ⟨fun s hrst hvalid hbusy hdue hw => ?_, fun s hrst hvalid hbusy hdue hw => ?_, length_legalInstrs,
    nodup_encode_legalInstrs, fun _ => not_illegalWord_iff_mem_legalInstrs⟩
  · rw [step_run hrst hvalid hbusy (due_eq_true_iff.mpr hdue), runLatched_of_illegalWord hw]
    rfl
  · obtain ⟨i, hdecode⟩ := not_illegalWord_iff.mp hw
    obtain ⟨t, hexec, hstatus⟩ := exec_status_ne_illegalCommand i s
    obtain ⟨-, hstep⟩ := stepRunsTheDecodedInstruction s i hrst hvalid hbusy hdue hdecode
    exact ⟨i, t, hdecode, hexec, by rw [hstep, hexec]; rfl, hstatus⟩

end Sys2Proof.Machine
end

section
/-!
PROOFS. The hexadecimal rendering of a packed integer (30_encoding R72).
-/

namespace Sys2Proof.Machine

theorem length_hexDigits (n p : Nat) : (hexDigits n p).length = n := by
  induction n with
  | zero => rfl
  | succ n ih => rw [hexDigits, List.length_cons, ih]

/-- The most significant digit comes first. -/
theorem getElem?_hexDigits {n k : Nat} (p : Nat) (hk : k < n) :
    (hexDigits n p)[k]? = some (hexDigit (p / 16 ^ (n - 1 - k) % 16)) := by
  induction n generalizing k with
  | zero => omega
  | succ n ih =>
    cases k with
    | zero => simp [hexDigits]
    | succ k =>
      rw [hexDigits, List.getElem?_cons_succ, ih (by omega)]
      congr 5
      omega

/-- The digit of a value below 16 is its entry in the table `0-9A-F`. -/
theorem hexDigit_eq_table {d : Nat} (hd : d < 16) :
    some (hexDigit d) =
      ['0', '1', '2', '3', '4', '5', '6', '7', '8', '9', 'A', 'B', 'C', 'D', 'E', 'F'][d]? := by
  interval_cases d <;> rfl

/-- Settles O60: the rendering is its list of digits, and each is the table's. -/
theorem hexRenderingReadsBack : Obligations.HexRenderingReadsBack := by
  intro f p
  rw [renderHex, String.toList_ofList]
  refine ⟨length_hexDigits _ _, fun k hk => ?_⟩
  rw [getElem?_hexDigits p.toNat hk]
  exact hexDigit_eq_table (Nat.mod_lt _ (by decide))

end Sys2Proof.Machine
end

section
/-!
PROOFS. The order of the lanes (00_scope R14): the value of a lane settles every comparison without a NaN, the infinities
included, because the fields of an infinity stand for a magnitude above every finite one.
-/

namespace Sys2Proof.Machine

/-- The fields of infinity, read as those of a number, stand above every finite magnitude. -/
theorem isFinite_iff_magnitude_lt (x : Lane) :
    isFinite x = true ↔ magnitude x < patternMagnitude 23 0x7F800000 := by
  rw [isFinite_iff_fields, magnitude_eq, (patternMagnitude_strictMono 23).lt_iff_lt]

theorem magnitude_of_isInf {x : Lane} (h : isInf x = true) : magnitude x = patternMagnitude 23 0x7F800000 := by
  obtain ⟨hexp, hfrac⟩ := (isInf_iff x).mp h
  rw [magnitude_eq, toNat_mod_eq_fields, hexp, hfrac]
  rfl

theorem isFinite_or_isInf {x : Lane} (h : isNaN x = false) : isFinite x = true ∨ isInf x = true := by
  rw [isFinite_iff, isInf_iff]
  by_cases hexp : expField x = 255
  · exact .inr ⟨hexp, by simpa [isNaN, hexp] using h⟩
  · exact .inl hexp

/-- The magnitude of a lane is that of its value. -/
theorem natAbs_value (x : Lane) : (value x).natAbs = magnitude x := by
  rw [value]
  split <;> simp

/-- A lane is its sign bit and its magnitude. -/
theorem lane_eq_of_magnitude {x y : Lane} (hs : signBit x = signBit y) (hm : magnitude x = magnitude y) : x = y := by
  rw [magnitude_eq, magnitude_eq, (patternMagnitude_strictMono 23).injective.eq_iff] at hm
  rw [signBit_eq, signBit_eq, decide_eq_decide] at hs
  have hx : x.toNat < 2 ^ 32 := x.isLt
  have hy : y.toNat < 2 ^ 32 := y.isLt
  apply BitVec.eq_of_toNat_eq
  omega

theorem value_eq_zero_iff (x : Lane) : value x = 0 ↔ isZero x = true := by
  rw [← magnitude_eq_zero_iff, ← natAbs_value, Int.natAbs_eq_zero]

/-- Only the two zeros are different lanes of the same value. -/
theorem eq_or_isZero_of_value_eq {x y : Lane} (h : value x = value y) : x = y ∨ (isZero x = true ∧ isZero y = true) := by
  have hm : magnitude x = magnitude y := by rw [← natAbs_value, ← natAbs_value, h]
  by_cases hs : signBit x = signBit y
  · exact .inl (lane_eq_of_magnitude hs hm)
  · rw [← value_eq_zero_iff, ← value_eq_zero_iff]
    rw [value, value, hm] at h ⊢
    cases hx : signBit x <;> cases hy : signBit y <;> simp_all

section Compare

variable {x y z : Lane}

/-- Without a NaN `fgt` compares the values, infinities included (00_scope R14). -/
theorem fgt_eq_of_not_isNaN (hx : isNaN x = false) (hy : isNaN y = false) :
    fgt x y = decide (value y < value x) := by
  rcases isFinite_or_isInf hx with fx | ix <;> rcases isFinite_or_isInf hy with fy | iy
  · exact fgt_of_finite x y fx fy
  · have hlt := (isFinite_iff_magnitude_lt x).mp fx
    rw [← magnitude_of_isInf iy, ← natAbs_value x] at hlt
    rw [fgt, hx, hy, isInf_of_isFinite fx, iy, value.eq_1 y]
    cases signBit y <;> simp <;> omega
  · have hlt := (isFinite_iff_magnitude_lt y).mp fy
    rw [← magnitude_of_isInf ix, ← natAbs_value y] at hlt
    have hne : (x != y) = true := bne_iff_ne.mpr fun h => by
      rw [h, isInf_of_isFinite fy] at ix
      contradiction
    rw [fgt, hx, hy, ix, hne, value.eq_1 x]
    cases signBit x <;> simp <;> omega
  · have hmag : magnitude x = magnitude y := by rw [magnitude_of_isInf ix, magnitude_of_isInf iy]
    have hpos := magnitude_pos (isZero_of_isInf iy)
    have hne : (x != y) = (signBit x != signBit y) := by
      rw [Bool.eq_iff_iff, bne_iff_ne, bne_iff_ne, not_iff_not]
      exact ⟨fun h => by rw [h], fun h => lane_eq_of_magnitude h hmag⟩
    rw [fgt, hx, hy, ix, hne, value, value, hmag]
    cases signBit x <;> cases signBit y <;> simp
    omega

/-- `fgt` is true exactly without a NaN and with the greater value first. -/
theorem fgt_iff : fgt x y = true ↔ isNaN x = false ∧ isNaN y = false ∧ value y < value x := by
  by_cases hnan : isNaN x = true ∨ isNaN y = true
  · rw [fgt_of_isNaN x y hnan]
    rcases hnan with h | h <;> simp [h]
  · rw [not_or, Bool.not_eq_true, Bool.not_eq_true] at hnan
    obtain ⟨hx, hy⟩ := hnan
    rw [fgt_eq_of_not_isNaN hx hy]
    simp [hx, hy]

theorem fgt_of_le (h : value x ≤ value y) : fgt x y = false := by
  rw [← Bool.not_eq_true, fgt_iff]
  omega

theorem fgt_irrefl (x : Lane) : fgt x x = false := fgt_of_le le_rfl

theorem fgt_asymm (h : fgt x y = true) : fgt y x = false :=
  fgt_of_le (fgt_iff.mp h).2.2.le

theorem fgt_trans (hxy : fgt x y = true) (hyz : fgt y z = true) : fgt x z = true := by
  rw [fgt_iff] at *
  exact ⟨hxy.1, hyz.2.1, hyz.2.2.trans hxy.2.2⟩

/-- Zeros of either sign compare alike. -/
theorem fgt_of_isZero_right (hy : isZero y = true) (hz : isZero z = true) (h : fgt x y = true) : fgt x z = true := by
  have hvy := (value_eq_zero_iff y).mpr hy
  have hvz := (value_eq_zero_iff z).mpr hz
  rw [fgt_iff] at h ⊢
  exact ⟨h.1, isNaN_of_isZero hz, by omega⟩

theorem fgt_of_isZero_left (hx : isZero x = true) (hz : isZero z = true) (h : fgt x y = true) : fgt z y = true := by
  have hvx := (value_eq_zero_iff x).mpr hx
  have hvz := (value_eq_zero_iff z).mpr hz
  rw [fgt_iff] at h ⊢
  exact ⟨isNaN_of_isZero hz, h.2.1, by omega⟩

/-- A lane whose value lies between those of two finite lanes is finite. -/
theorem isFinite_of_value_between (hx : isFinite x = true) (hz : isFinite z = true) (hxy : value x ≤ value y)
    (hyz : value y ≤ value z) : isFinite y = true := by
  rw [isFinite_iff_magnitude_lt, ← natAbs_value] at *
  omega

end Compare

end Sys2Proof.Machine
end

section
/-!
PROOFS. `Clamp1` and `Sat1` (40_helper_kernel R103, R104, R110): which operand is selected, case by case, from the order
of the lanes.
-/

namespace Sys2Proof.Machine

section Clamp

variable {v lo hi : Lane}

/-- The value is selected when it is above the lower and below the upper bound. -/
theorem clamp1_eq_value (hlo : fgt v lo = true) (hhi : fgt hi v = true) : clamp1 v lo hi = v := by
  simp [clamp1, fmax, fmin, flt, hlo, hhi]

/-- The lower bound is selected when the value is not above it and it is below the upper bound. -/
theorem clamp1_eq_lower (hlo : fgt v lo = false) (hhi : fgt hi lo = true) : clamp1 v lo hi = lo := by
  simp [clamp1, fmax, fmin, flt, hlo, hhi]

/-- The upper bound is selected when it is not above the greater of the other two. -/
theorem clamp1_eq_upper (hv : fgt v lo = true → fgt hi v = false) (hlo : fgt v lo = false → fgt hi lo = false) :
    clamp1 v lo hi = hi := by
  cases h : fgt v lo
  · simp [clamp1, fmax, fmin, flt, h, hlo h]
  · simp [clamp1, fmax, fmin, flt, h, hv h]

/-- `Clamp1` is one of its operands, bit for bit, with the comparisons that select it. -/
theorem clamp1_cases (v lo hi : Lane) :
    (fgt v lo = true ∧ fgt hi v = true ∧ clamp1 v lo hi = v) ∨
      (fgt v lo = false ∧ fgt hi lo = true ∧ clamp1 v lo hi = lo) ∨ clamp1 v lo hi = hi := by
  rw [clamp1]
  rcases fmax_cases v lo with ⟨hlo, hmax⟩ | ⟨hlo, hmax⟩ <;> rw [hmax]
  · rcases fmin_cases v hi with ⟨hhi, hmin⟩ | ⟨-, hmin⟩
    · exact .inl ⟨hlo, hhi, hmin⟩
    · exact .inr (.inr hmin)
  · rcases fmin_cases lo hi with ⟨hhi, hmin⟩ | ⟨-, hmin⟩
    · exact .inr (.inl ⟨hlo, hhi, hmin⟩)
    · exact .inr (.inr hmin)

/-- Bounds in order: a value below the lower bound, or a NaN, gives the lower bound. -/
theorem clamp1_of_below (hbounds : flt lo hi = true ∨ (lo = hi ∧ isNaN lo = false))
    (h : flt v lo = true ∨ isNaN v = true) : clamp1 v lo hi = lo := by
  have hlo : fgt v lo = false := by
    rcases h with h | h
    · exact fgt_asymm h
    · exact fgt_of_isNaN v lo (.inl h)
  rcases hbounds with hlt | ⟨rfl, -⟩
  · exact clamp1_eq_lower hlo hlt
  · exact clamp1_eq_upper (fun h => by rw [hlo] at h; contradiction) fun _ => fgt_irrefl lo

/-- Bounds in order: a value above the upper bound gives the upper bound. -/
theorem clamp1_of_above (hbounds : flt lo hi = true ∨ (lo = hi ∧ isNaN lo = false)) (h : fgt v hi = true) :
    clamp1 v lo hi = hi := by
  have hlo : fgt v lo = true := by
    rcases hbounds with hlt | ⟨rfl, -⟩
    · exact fgt_trans h hlt
    · exact h
  exact clamp1_eq_upper (fun _ => fgt_asymm h) fun h => by rw [hlo] at h; contradiction

/-- A value on or between the bounds is kept bit for bit: where it equals a bound in value it is that bound, for a zero
equals another lane only in the case set aside. -/
theorem clamp1_of_between (hv : isNaN v = false) (hlo : isNaN lo = false) (hhi : isNaN hi = false)
    (hbelow : flt v lo = false) (habove : fgt v hi = false)
    (hzero : ¬(isZero v = true ∧ (isZero lo = true ∨ isZero hi = true))) : clamp1 v lo hi = v := by
  rw [flt, fgt_eq_of_not_isNaN hlo hv, decide_eq_false_iff_not, not_lt] at hbelow
  rw [fgt_eq_of_not_isNaN hv hhi, decide_eq_false_iff_not, not_lt] at habove
  have heq {b : Lane} (hb : b = lo ∨ b = hi) (h : value v = value b) : v = b := by
    rcases eq_or_isZero_of_value_eq h with h | ⟨hzv, hzb⟩
    · exact h
    · rcases hb with rfl | rfl
      · exact absurd ⟨hzv, .inl hzb⟩ hzero
      · exact absurd ⟨hzv, .inr hzb⟩ hzero
  rcases habove.lt_or_eq with hlt | heqhi
  · rcases hbelow.lt_or_eq with hgt | heqlo
    · exact clamp1_eq_value (fgt_iff.mpr ⟨hv, hlo, hgt⟩) (fgt_iff.mpr ⟨hhi, hv, hlt⟩)
    · obtain rfl := heq (.inl rfl) heqlo.symm
      exact clamp1_eq_lower (fgt_irrefl v) (fgt_iff.mpr ⟨hhi, hv, hlt⟩)
  · obtain rfl := heq (.inr rfl) heqhi
    exact clamp1_eq_upper (fun _ => fgt_irrefl v) id

/-- A zero at a zero lower bound gives that bound. -/
theorem clamp1_zero_lower (hv : isZero v = true) (hlo : isZero lo = true) (hhi : fgt hi 0 = true) :
    clamp1 v lo hi = lo := by
  have hle : value v = value lo := by rw [(value_eq_zero_iff v).mpr hv, (value_eq_zero_iff lo).mpr hlo]
  exact clamp1_eq_lower (fgt_of_le hle.le) (fgt_of_isZero_right (by decide) hlo hhi)

/-- A zero at a zero upper bound gives that bound, because a lower bound below the one zero is below the other. -/
theorem clamp1_zero_upper (hv : isZero v = true) (hhi : isZero hi = true) (hlo : fgt hi lo = true → fgt v lo = true) :
    clamp1 v lo hi = hi := by
  have hle : value hi = value v := by rw [(value_eq_zero_iff v).mpr hv, (value_eq_zero_iff hi).mpr hhi]
  refine clamp1_eq_upper (fun _ => fgt_of_le hle.le) fun h => ?_
  rw [← Bool.not_eq_true]
  intro hgt
  rw [hlo hgt] at h
  contradiction

/-- Bounds in reverse order give the upper bound. -/
theorem clamp1_of_reversed (h : fgt lo hi = true) : clamp1 v lo hi = hi :=
  clamp1_eq_upper (fun hv => fgt_asymm (fgt_trans hv h)) fun _ => fgt_asymm h

/-- A NaN as a bound gives the upper bound. -/
theorem clamp1_of_isNaN (h : isNaN lo = true ∨ isNaN hi = true) : clamp1 v lo hi = hi := by
  refine clamp1_eq_upper (fun hv => ?_) fun _ => fgt_of_isNaN hi lo h.symm
  rcases h with h | h
  · rw [fgt_of_isNaN v lo (.inr h)] at hv
    contradiction
  · exact fgt_of_isNaN hi v (.inl h)

/-- With finite bounds in order `Clamp1` lies between them, whatever it clamps. -/
theorem clamp1_between (hlo : isFinite lo = true) (hhi : isFinite hi = true) (hle : value lo ≤ value hi) :
    isFinite (clamp1 v lo hi) = true ∧ value lo ≤ value (clamp1 v lo hi) ∧ value (clamp1 v lo hi) ≤ value hi := by
  have hbetween : value lo ≤ value (clamp1 v lo hi) ∧ value (clamp1 v lo hi) ≤ value hi := by
    rcases clamp1_cases v lo hi with ⟨hgt, hlt, h⟩ | ⟨-, -, h⟩ | h <;> rw [h]
    · exact ⟨(fgt_iff.mp hgt).2.2.le, (fgt_iff.mp hlt).2.2.le⟩
    · exact ⟨le_rfl, hle⟩
    · exact ⟨hle, le_rfl⟩
  exact ⟨isFinite_of_value_between hlo hhi hbetween.1 hbetween.2, hbetween⟩

end Clamp

/-- Settles O35, row by row of the table of 40_helper_kernel R104. -/
theorem clampSelectsAsTheTableSays : Obligations.ClampSelectsAsTheTableSays := by
  refine fun v lo hi => ⟨fun hbounds => ⟨clamp1_of_below hbounds, clamp1_of_above hbounds⟩, clamp1_of_between,
    fun hv => ⟨clamp1_zero_lower hv, fun hlo hhi => ?_, fun hlo hhi => ?_⟩, clamp1_of_reversed,
    fun hlo _ => clamp1_of_isNaN (.inl hlo), fun hhi => clamp1_of_isNaN (.inr hhi)⟩
  · exact clamp1_zero_upper hv hhi fun _ => fgt_of_isZero_left (by decide) hv hlo
  · exact clamp1_zero_upper hv hhi fun h => fgt_of_isZero_left hhi hv h

/-- Settles O39: the rows of the clamp's table with the bounds +0.0 and 1.0, which are in order. -/
theorem saturateClampsToUnit : Obligations.SaturateClampsToUnit := by
  have hbounds : flt 0x00000000 0x3F800000 = true := by decide +kernel
  refine fun x => ⟨rfl, ?_, clamp1_of_above (.inl hbounds), fun hpos habove => ?_⟩
  · rintro (hneg | hzero | hnan)
    · exact clamp1_of_below (.inl hbounds) (.inl hneg)
    · exact clamp1_zero_lower hzero (by decide) hbounds
    · exact clamp1_of_below (.inl hbounds) (.inr hnan)
  · obtain ⟨hx, -, hlt⟩ := fgt_iff.mp hpos
    have hzero : ¬isZero x = true := fun h => by
      rw [(value_eq_zero_iff x).mpr h] at hlt
      exact absurd hlt (by decide)
    exact clamp1_of_between hx (by decide) (by decide) (fgt_asymm hpos) habove fun h => hzero h.1

end Sys2Proof.Machine
end

section
/-!
PROOFS. `Round1` and `Trunc1` (40_helper_kernel R106, R108): the whole number of ones they choose is a binary32 value, so
nothing is rounded after the choice.
-/

namespace Sys2Proof.Machine

/-- A magnitude of fewer than `2^24` steps of `2^k` units is a whole number of the steps of its own grid. -/
theorem gridStep_dvd_of_lt {num k : Nat} (hdvd : 2 ^ k ∣ num) (hlt : num < 2 ^ (k + 24)) :
    2 ^ gridExponent 23 num 1 ∣ num := by
  rcases Nat.eq_zero_or_pos num with rfl | hpos
  · exact dvd_zero _
  have hlog : num.log2 < k + 24 := (Nat.log2_lt hpos.ne').mpr hlt
  refine (Nat.pow_dvd_pow 2 ?_).trans hdvd
  rw [gridExponent, Nat.div_one]
  omega

/-- A magnitude is fewer than `2^24` steps of some `2^k` units. -/
theorem exists_magnitude_grid (x : Lane) : ∃ k, 2 ^ k ∣ magnitude x ∧ magnitude x < 2 ^ (k + 24) := by
  obtain ⟨k, j, hb, hlo, hhi⟩ := exists_grid 23 (x.toNat % 2 ^ 31)
  refine ⟨k, ?_⟩
  rw [magnitude_eq, hb, patternMagnitude_grid hlo hhi.le, Nat.pow_add, Nat.mul_comm (2 ^ k)]
  exact ⟨Nat.dvd_mul_left _ _, Nat.mul_lt_mul_of_pos_right hhi (by positivity)⟩

/-- From magnitude `2^23` on a lane is whole. -/
theorem one_dvd_magnitude_or_lt (x : Lane) : one ∣ magnitude x ∨ magnitude x < 2 ^ 23 * one := by
  obtain ⟨k, hdvd, hlt⟩ := exists_magnitude_grid x
  rcases Nat.lt_or_ge k 149 with hk | hk
  · exact .inr (hlt.trans_le (Nat.pow_le_pow_right (by norm_num) (show k + 24 ≤ 172 by omega)))
  · exact .inl ((Nat.pow_dvd_pow 2 hk).trans hdvd)

/-- The largest finite magnitude is below the overflow threshold of `rne32`. -/
theorem magnitude_lt_overflow {x : Lane} (hx : isFinite x = true) : magnitude x < (2 ^ 25 - 1) * 2 ^ 252 := by
  have hmax : patternMagnitude 23 0x7F7FFFFF < (2 ^ 25 - 1) * 2 ^ 252 := by decide +kernel
  rw [isFinite_iff_fields] at hx
  rw [magnitude_eq]
  exact ((patternMagnitude_strictMono 23).monotone (by omega)).trans_lt hmax

/-- `n` ones are what rounding a finite lane to a whole number gives: the lane itself when it is whole, else `n` is one of
the two whole numbers around it. -/
theorem rne32_whole {x : Lane} {n : Nat} (hx : isFinite x = true) (hwhole : one ∣ magnitude x → n * one = magnitude x)
    (hn : n ≤ magnitude x / one + 1) (neg : Bool) :
    isFinite (rne32 neg (n * one) 1) = true ∧ magnitude (rne32 neg (n * one) 1) = n * one := by
  rcases one_dvd_magnitude_or_lt x with hdvd | hlt
  · rw [hwhole hdvd]
    obtain ⟨k, hk, hlt⟩ := exists_magnitude_grid x
    exact rne32_exact neg (gridStep_dvd_of_lt hk hlt) (magnitude_lt_overflow hx)
  · have hn23 : n ≤ 2 ^ 23 := by
      have := (Nat.div_lt_iff_lt_mul (show 0 < one by decide)).mpr hlt
      omega
    have hle : n * one ≤ 2 ^ 23 * one := Nat.mul_le_mul_right one hn23
    refine rne32_exact neg (gridStep_dvd_of_lt (Nat.dvd_mul_left one n) ?_) ?_
    · exact hle.trans_lt (by decide)
    · exact hle.trans_lt (by decide)

section Whole

variable {x : Lane}

theorem round1_of_isNaN (h : isNaN x = true) : round1 x = qNaN := by simp [round1, h]
theorem trunc1_of_isNaN (h : isNaN x = true) : trunc1 x = qNaN := by simp [trunc1, h]

theorem round1_of_isInf_or_isZero (h : isInf x = true ∨ isZero x = true) : round1 x = x := by
  rcases h with h | h
  · simp [round1, isNaN_of_isInf h, h]
  · simp [round1, isNaN_of_isZero h, h]

theorem trunc1_of_isInf_or_isZero (h : isInf x = true ∨ isZero x = true) : trunc1 x = x := by
  rcases h with h | h
  · simp [trunc1, isNaN_of_isInf h, h]
  · simp [trunc1, isNaN_of_isZero h, h]

/-- `y` is finite, has the sign of `x`, and its magnitude is `n` ones. -/
structure IsWhole (x y : Lane) (n : Nat) : Prop where
  finite : isFinite y = true
  sign : signBit y = signBit x
  magnitude_eq : magnitude y = n * one

/-- `Round1` of a finite lane is whole: the nearest even number of ones. -/
theorem round1_isWhole (hx : isFinite x = true) : IsWhole x (round1 x) (nearestEven (magnitude x) one) := by
  have hone : 0 < one := by decide
  cases hzero : isZero x
  · have heq : round1 x = rne32 (signBit x) (nearestEven (magnitude x) one * one) 1 := by
      simp [round1, isNaN_of_isFinite hx, isInf_of_isFinite hx, hzero]
    have hwhole : one ∣ magnitude x → nearestEven (magnitude x) one * one = magnitude x := by
      intro hdvd
      obtain ⟨m, hm⟩ := exists_eq_mul_left_of_dvd hdvd
      rw [hm, nearestEven_mul_right m hone]
    have hn : nearestEven (magnitude x) one ≤ magnitude x / one + 1 := by
      have := nearestEven_eq_div_or (num := magnitude x) hone
      omega
    obtain ⟨hfin, hmag⟩ := rne32_whole hx hwhole hn (signBit x)
    rw [heq]
    exact ⟨hfin, signBit_rne32 _ _ _, hmag⟩
  · rw [round1_of_isInf_or_isZero (.inr hzero), (magnitude_eq_zero_iff x).mpr hzero]
    exact ⟨hx, rfl, (magnitude_eq_zero_iff x).mpr hzero⟩

/-- `Trunc1` of a finite lane is whole: the whole part of its magnitude. -/
theorem trunc1_isWhole (hx : isFinite x = true) : IsWhole x (trunc1 x) (magnitude x / one) := by
  cases hzero : isZero x
  · have heq : trunc1 x = rne32 (signBit x) (magnitude x / one * one) 1 := by
      simp [trunc1, isNaN_of_isFinite hx, isInf_of_isFinite hx, hzero]
    obtain ⟨hfin, hmag⟩ := rne32_whole hx Nat.div_mul_cancel (Nat.le_succ _) (signBit x)
    rw [heq]
    exact ⟨hfin, signBit_rne32 _ _ _, hmag⟩
  · rw [trunc1_of_isInf_or_isZero (.inr hzero), (magnitude_eq_zero_iff x).mpr hzero, Nat.zero_div]
    exact ⟨hx, rfl, by rw [Nat.zero_mul, magnitude_eq_zero_iff, hzero]⟩

end Whole

/-- The whole number of a sign and a magnitude. -/
def signedNat (neg : Bool) (n : Nat) : Int := if neg then -(n : Int) else n

theorem value_eq_signedNat (x : Lane) : value x = signedNat (signBit x) (magnitude x) := rfl

theorem signedNat_mul (neg : Bool) (n m : Nat) : signedNat neg (n * m) = signedNat neg n * m := by
  cases neg <;> simp [signedNat]

/-- Two numbers of one sign are as far apart as their magnitudes. -/
theorem abs_signedNat_sub (neg : Bool) (n m : Nat) : |signedNat neg n - signedNat neg m| = |(n : Int) - m| := by
  cases neg
  · rfl
  · rw [← abs_neg]
    congr 1
    simp only [signedNat, if_true]
    ring

theorem signedNat_mod_two {n : Nat} (neg : Bool) (h : n % 2 = 0) : signedNat neg n % 2 = 0 := by
  cases neg <;> simp only [signedNat, if_true, if_false, Bool.false_eq_true] <;> omega

/-- The value of a whole lane. -/
theorem IsWhole.value_eq {x y : Lane} {n : Nat} (h : IsWhole x y n) : value y = signedNat (signBit x) n * one := by
  rw [value_eq_signedNat, h.sign, h.magnitude_eq, signedNat_mul]

/-- How far a whole number of ones is from the value of a lane of the same sign. -/
theorem abs_signedNat_mul_one_sub_value (x : Lane) (n : Nat) :
    |signedNat (signBit x) n * one - value x| = |((n * one : Nat) : Int) - magnitude x| := by
  rw [← signedNat_mul, value_eq_signedNat, abs_signedNat_sub]

/-- The nearest even number of ones of the magnitude is that of the value. -/
theorem nearestEvenInt_value (x : Lane) :
    NearestEvenInt (signedNat (signBit x) (nearestEven (magnitude x) one)) (value x) := by
  obtain ⟨hup, hdown, htie⟩ := nearestEven_spec (magnitude x) one (by decide)
  rw [NearestEvenInt, abs_signedNat_mul_one_sub_value]
  simp only [Nat.add_mul, Nat.one_mul, Nat.mul_assoc] at hup hdown htie
  have habs := abs_cases (((nearestEven (magnitude x) one * one : Nat) : Int) - magnitude x)
  exact ⟨by omega, fun h => signedNat_mod_two _ (htie (by omega))⟩

/-- The whole part of the magnitude is less than one away from it. -/
theorem abs_trunc_sub_value_lt (x : Lane) : |signedNat (signBit x) (magnitude x / one) * one - value x| < one := by
  have hdiv := Nat.div_add_mod' (magnitude x) one
  have hmod := Nat.mod_lt (magnitude x) (show one > 0 by decide)
  rw [abs_signedNat_mul_one_sub_value, abs_lt]
  omega

/-- A whole number less than one away from a value keeps the value's whole bounds (40_helper_kernel R114). -/
theorem between_of_abs_sub_lt_one {n lo hi v : Int} (h : |n * one - v| < one) (hlo : lo * one ≤ v)
    (hhi : v ≤ hi * one) : lo ≤ n ∧ n ≤ hi := by
  have hone : (0 : Int) < one := by decide
  obtain ⟨hgt, hlt⟩ := abs_lt.mp h
  constructor
  · have : lo * (one : Int) < (n + 1) * one := by linarith
    exact Int.lt_add_one_iff.mp (lt_of_mul_lt_mul_right this hone.le)
  · have : n * (one : Int) < (hi + 1) * one := by linarith
    exact Int.lt_add_one_iff.mp (lt_of_mul_lt_mul_right this hone.le)

/-- Settles O37: `Round1` chooses the nearest even number of ones of the magnitude, and a magnitude from `2^23` on is
already whole. -/
theorem roundGivesTheNearestEvenInteger : Obligations.RoundGivesTheNearestEvenInteger := by
  refine fun x => ⟨round1_of_isNaN, round1_of_isInf_or_isZero, fun hx => ?_⟩
  have hwhole := round1_isWhole hx
  refine ⟨hwhole.finite, hwhole.sign, ⟨_, hwhole.value_eq, nearestEvenInt_value x⟩, fun hbig => ?_⟩
  obtain hdvd | hlt := one_dvd_magnitude_or_lt x
  · obtain ⟨m, hm⟩ := exists_eq_mul_left_of_dvd hdvd
    refine lane_eq_of_magnitude hwhole.sign ?_
    rw [hwhole.magnitude_eq, hm, nearestEven_mul_right m (by decide)]
  · exact absurd hbig hlt.not_ge

/-- Settles O38: `Trunc1` of a finite lane is the whole part of its magnitude with its sign. -/
theorem truncateDropsTheFraction : Obligations.TruncateDropsTheFraction := by
  refine fun x => ⟨trunc1_of_isNaN, trunc1_of_isInf_or_isZero, fun hx => ?_⟩
  obtain ⟨hfin, hsign, hmag⟩ := trunc1_isWhole hx
  exact ⟨hfin, hsign, hmag⟩

/-- Settles O36: `Clamp1` selects a bound or a value between the bounds; `Round1` and `Trunc1` move a value by less than
one, to a whole number; `Sat1` is a clamp. -/
theorem kernelStaysInRange : Obligations.KernelStaysInRange := by
  refine ⟨fun v lo hi => clamp1_between, fun x lo hi hx hlo hhi => ?_, fun v => ?_⟩
  · have hround := round1_isWhole hx
    have htrunc := trunc1_isWhole hx
    have hone : (0 : Int) < one := by decide
    obtain ⟨hnear, -⟩ := nearestEvenInt_value x
    exact ⟨⟨hround.finite, _, hround.value_eq, between_of_abs_sub_lt_one (by linarith) hlo hhi⟩,
      htrunc.finite, _, htrunc.value_eq, between_of_abs_sub_lt_one (abs_trunc_sub_value_lt x) hlo hhi⟩
  · exact clamp1_between (by decide) (by decide) (by decide)

end Sys2Proof.Machine
end

section
/-!
PROOFS. `Madd1` (40_helper_kernel R112): the cases of the rounded product meet the cases of the rounded sum.
-/

namespace Sys2Proof.Machine

theorem isNaN_qNaN : isNaN qNaN = true := by decide

section Madd

variable {v m b : Lane}

theorem madd1_of_isNaN (h : isNaN v = true ∨ isNaN m = true ∨ isNaN b = true) : madd1 v m b = qNaN := by
  rw [madd1]
  rcases h with hv | hm | hb
  · exact fadd32_of_isNaN (.inl (by rw [fmul32_of_isNaN (.inl hv), isNaN_qNaN]))
  · exact fadd32_of_isNaN (.inl (by rw [fmul32_of_isNaN (.inr hm), isNaN_qNaN]))
  · exact fadd32_of_isNaN (.inr hb)

theorem madd1_isInf_isZero (h : (isZero v = true ∧ isInf m = true) ∨ (isInf v = true ∧ isZero m = true)) :
    madd1 v m b = qNaN := by
  rw [madd1, fmul32_isInf_isZero h.symm]
  exact fadd32_of_isNaN (.inl isNaN_qNaN)

/-- An infinite product and an infinite bias of the other sign. -/
theorem madd1_isInf_of_signBit_ne (hp : isInf (fmul32 v m) = true) (hb : isInf b = true)
    (hs : signBit b ≠ signBit (fmul32 v m)) : madd1 v m b = qNaN := by
  rw [madd1, fadd32_isInf_isInf hp hb, if_neg]
  exact fun h => hs (by rw [h])

/-- An infinite product and a bias that is finite or the same infinity. -/
theorem madd1_isInf_product (hp : isInf (fmul32 v m) = true) (hb : isNaN b = false)
    (hs : isInf b = true → signBit b = signBit (fmul32 v m)) : madd1 v m b = fmul32 v m := by
  rw [madd1]
  rcases isFinite_or_isInf hb with hfin | hinf
  · exact fadd32_isInf_isFinite hp hfin
  · rw [fadd32_isInf_isInf hp hinf, if_pos]
    exact lane_eq_of_magnitude (hs hinf).symm (by rw [magnitude_of_isInf hp, magnitude_of_isInf hinf])

end Madd

/-- Settles O40, case by case of the product and the bias. -/
theorem multiplyAddRoundsTwice : Obligations.MultiplyAddRoundsTwice :=
  ⟨fun _ _ _ => ⟨rfl, madd1_of_isNaN, madd1_isInf_isZero, madd1_isInf_of_signBit_ne, madd1_isInf_product⟩,
    by decide +kernel⟩

end Sys2Proof.Machine
end

section
/-!
PROOFS. The helper operations answer lane by lane (40_helper_kernel R101): an operation that ends in `respondFields`
answers those fields and changes nothing else.
-/

namespace Sys2Proof.Machine

/-- `respondFields` answers OK with its fields, zero above them, and nothing else changes. -/
theorem answersFields_respondFields {w n : Nat} (f : Nat → BitVec w) (s : State) (hw : 0 < w) (hn : w * n ≤ 128) :
    AnswersFields w n f s (respondFields w n f s) := by
  refine ⟨onlyResponse_respond .ok _ s, rfl, fun i hi => ?_, fun k hk => ?_⟩
  · rw [respondFields_rspData, packFields_extract w hw f n i hn hi]
  · rw [respondFields_rspData, packFields_high w hw f n k hn hk]

/-- What a helper operation at a lane count answers, once its equation is known. -/
theorem helper_answersFields {n : Lanes} {i : Instr} {f : Nat → Lane} {s : State}
    (h : exec i s = .next (respondFields 32 n.count f s)) :
    ∃ t, exec i s = .next t ∧ AnswersFields 32 n.count f s t :=
  ⟨_, h, answersFields_respondFields f s (by decide) (by cases n <;> decide)⟩

/-- The word of an operation at a lane count (30_encoding R60). -/
theorem Operation.encode_lanes {op : Nat} {n : Lanes} {i : Instr} (h : Operation ⟨op, n.code, 0⟩ i) :
    (encode i).toNat = op + 16 * n.code := by
  rw [encode_toNat, h.fields_eq]
  ring

/-- Settles O33, from the equation of each operation. -/
theorem unaryHelpersActLaneByLane : Obligations.UnaryHelpersActLaneByLane := fun n s =>
  ⟨⟨(Operation.vround n).encode_lanes, helper_answersFields (exec_vround n s)⟩,
    ⟨(Operation.vtrunc n).encode_lanes, helper_answersFields (exec_vtrunc n s)⟩,
    ⟨(Operation.vsat n).encode_lanes, helper_answersFields (exec_vsat n s)⟩⟩

/-- Settles O34, from the equation of each operation and the cases of the clamp. -/
theorem ternaryHelpersActLaneByLane : Obligations.TernaryHelpersActLaneByLane := by
  refine ⟨fun n s => ⟨⟨(Operation.vclamp n).encode_lanes, helper_answersFields (exec_vclamp n s)⟩,
    ⟨(Operation.vmadd n).encode_lanes, helper_answersFields (exec_vmadd n s)⟩⟩, fun v lo hi => ?_⟩
  obtain ⟨-, -, h⟩ | ⟨-, -, h⟩ | h := clamp1_cases v lo hi
  · exact .inl h
  · exact .inr (.inl h)
  · exact .inr (.inr h)

end Sys2Proof.Machine
end

section
/-!
PROOFS. FROMP, PACK, UNPACK and CMPEQ (41_construct_pack R131 to R140): results made of fields as numbers, components
stored and read back, and what the four operations answer.
-/

namespace Sys2Proof.Machine

/-! The sizes of the formats (30_encoding R66). -/

theorem format_bits_pos (f : Format) : 0 < f.bits := by cases f <;> decide

theorem format_bits_lt_lane (f : Format) : f.bits < 32 := by cases f <;> decide

theorem format_lanes_fit (f : Format) : 32 * f.arity ≤ 128 := by cases f <;> decide

theorem format_bits_mul_arity (f : Format) : f.bits * f.arity = f.width := Nat.mul_comm _ _

theorem format_fields_fit (f : Format) : f.bits * f.arity ≤ 128 := by cases f <;> decide

theorem format_width_le (f : Format) : f.width ≤ 128 := format_bits_mul_arity f ▸ format_fields_fit f

/-- The word of an operation without `LEN` (30_encoding R60). -/
theorem Operation.encode_noLen {op fmt : Nat} {i : Instr} (h : Operation ⟨op, fmt, 0⟩ i) :
    (encode i).toNat = op + 16 * fmt := by
  rw [encode_toNat, h.fields_eq]
  ring

/-! Fields and lanes as arithmetic on the bus. -/

theorem field_toNat (w i : Nat) (p : Bus) : (field w i p).toNat = p.toNat / 2 ^ (i * w) % 2 ^ w := by
  rw [field, BitVec.extractLsb'_toNat, Nat.shiftRight_eq_div_pow, Nat.mul_comm]

theorem lane_toNat (x : Bus) (i : Nat) : (lane x i).toNat = x.toNat / 2 ^ (32 * i) % 2 ^ 32 := by
  rw [lane, BitVec.extractLsb'_toNat, Nat.shiftRight_eq_div_pow]

/-- What PACK stores of a lane (41_construct_pack R133). -/
theorem storeInt_lane_toNat {w : Nat} (hw : w ≤ 32) (x : Bus) (i : Nat) :
    (storeInt w (lane x i)).toNat = x.toNat / 2 ^ (32 * i) % 2 ^ w := by
  rw [storeInt_toNat, lane_toNat, Nat.mod_mod_of_dvd _ (pow_dvd_pow 2 hw)]

section PackFields

variable {w n : Nat} (f : Nat → BitVec w)

/-- A result made of `n` fields ends with the last one. -/
theorem packFields_toNat_lt (hw : 0 < w) (h : w * n ≤ 128) : (packFields w f n).toNat < 2 ^ (w * n) :=
  Nat.lt_pow_two_of_testBit _ fun k hk => packFields_high w hw f n k h hk

/-- A result made of fields is the sum of the fields at their offsets (41_construct_pack R134). -/
theorem packFields_toNat (hw : 0 < w) (h : w * n ≤ 128) :
    (packFields w f n).toNat = ∑ i ∈ Finset.range n, (f i).toNat * 2 ^ (i * w) := by
  induction n with
  | zero => rfl
  | succ n ih =>
    rw [Nat.mul_succ] at h
    have hn : w * n ≤ 128 := by omega
    have hlow : (packFields w f n).toNat < 2 ^ (w * n) := packFields_toNat_lt f hw hn
    have hhigh : (f n).toNat * 2 ^ (w * n) < 2 ^ 128 :=
      calc (f n).toNat * 2 ^ (w * n)
          < 2 ^ w * 2 ^ (w * n) := Nat.mul_lt_mul_of_pos_right (f n).isLt (by positivity)
        _ = 2 ^ (w * n + w) := by rw [Nat.add_comm, Nat.pow_add]
        _ ≤ 2 ^ 128 := Nat.pow_le_pow_right (by norm_num) h
    have hfit : ((f n).setWidth 128 <<< (w * n)).toNat = (f n).toNat <<< (w * n) := by
      rw [BitVec.toNat_shiftLeft, BitVec.toNat_setWidth_of_le (by omega), Nat.shiftLeft_eq, Nat.mod_eq_of_lt hhigh]
    rw [packFields, BitVec.toNat_or, hfit, Nat.or_comm, ← Nat.shiftLeft_add_eq_or_of_lt hlow, Nat.shiftLeft_eq,
      ih hn, Finset.sum_range_succ, Nat.mul_comm w n, Nat.add_comm]

/-- The fields of a packed integer, put together again, are the packed integer (30_encoding R68). -/
theorem packFields_field (hw : 0 < w) (h : w * n ≤ 128) (p : Bus) :
    packFields w (fun i => field w i p) n = packedResult (w * n) p := by
  apply BitVec.eq_of_getLsbD_eq
  intro k hk
  have hrest : k % w < w := Nat.mod_lt k hw
  rw [packFields_getLsbD w hw _ n k h, field_getLsbD, Nat.div_add_mod]
  simp [packedResult, packed, BitVec.getLsbD_extractLsb', hrest, hk]

/-- A result made of fields has nothing above its packed integer. -/
theorem packedResult_packFields (hw : 0 < w) (h : w * n ≤ 128) :
    packedResult (w * n) (packFields w f n) = packFields w f n :=
  BitVec.eq_of_toNat_eq (by rw [packedResult_toNat _ h, Nat.mod_eq_of_lt (packFields_toNat_lt f hw h)])

end PackFields

/-! A component, read from its field and stored to it. -/

/-- The law by which UNPACK reads a component of a format into a lane (41_construct_pack R136, R137). -/
def readComponent (f : Format) (c : BitVec f.bits) : Lane :=
  if f.signed then readSigned f.bits c else readUnsigned f.bits c

theorem exec_unpack_readComponent (f : Format) (s : State) :
    exec (.unpack f) s = .next (respondFields 32 f.arity (fun i => readComponent f (field f.bits i s.latch.a)) s) :=
  exec_unpack f s

theorem answer_unpack_readComponent (f : Format) (a b c : Bus) : answer (command (.unpack f) a b c) =
    ⟨0, packFields 32 (fun i => readComponent f (field f.bits i a)) f.arity⟩ :=
  answer_unpack f a b c

section Components

variable {f : Format} (c : BitVec f.bits) (x : Lane)

theorem readComponent_of_signed (hs : f.signed = true) : readComponent f c = readSigned f.bits c := if_pos hs

theorem readComponent_of_unsigned (hs : f.signed = false) : readComponent f c = readUnsigned f.bits c := by
  rw [readComponent, hs, if_neg Bool.false_ne_true]

/-- A lane read from a component is two's complement in the signed formats and not negative in the others. -/
theorem readComponent_toInt : (readComponent f c).toInt =
    if f.signed = true ∧ 2 ^ (f.bits - 1) ≤ c.toNat then (c.toNat : Int) - 2 ^ f.bits else c.toNat := by
  have hpow := Nat.two_pow_pred_mul_two (format_bits_pos f)
  cases hs : f.signed with
  | true =>
    rw [readComponent_of_signed c hs, readSigned_toInt _ (format_bits_lt_lane f).le, BitVec.toInt_eq_toNat_cond]
    have hsign : 2 * c.toNat < 2 ^ f.bits ↔ ¬2 ^ (f.bits - 1) ≤ c.toNat := by omega
    simp only [hsign, ite_not, true_and, Nat.cast_pow, Nat.cast_ofNat]
  | false =>
    have hlt : c.toNat < 2 ^ 31 :=
      c.isLt.trans_le (Nat.pow_le_pow_right (by norm_num) (Nat.le_of_lt_succ (format_bits_lt_lane f)))
    have hval := readUnsigned_toNat _ (format_bits_lt_lane f).le c
    rw [readComponent_of_unsigned c hs, BitVec.toInt_eq_toNat_of_lt (by omega), hval]
    simp

/-- A component read into a lane and stored again is the component. -/
theorem storeInt_readComponent : storeInt f.bits (readComponent f c) = c := by
  have hle := (format_bits_lt_lane f).le
  cases hs : f.signed with
  | true =>
    rw [readComponent_of_signed c hs, storeInt, readSigned]
    apply BitVec.eq_of_getLsbD_eq
    intro k hk
    simp [BitVec.getElem_signExtend, hk, hk.trans_le hle]
  | false =>
    rw [readComponent_of_unsigned c hs, storeInt, readUnsigned, BitVec.setWidth_setWidth_of_le _ hle,
      BitVec.setWidth_eq]

/-- A lane stored as a component and read again keeps its low bits. -/
theorem readComponent_storeInt_mod :
    (readComponent f (storeInt f.bits x)).toNat % 2 ^ f.bits = x.toNat % 2 ^ f.bits := by
  rw [← storeInt_toNat, storeInt_readComponent, storeInt_toNat]

/-- A lane that a signed component can hold comes back from it. -/
theorem readComponent_storeInt_of_signed (hs : f.signed = true) (hlo : -(2 ^ (f.bits - 1) : Int) ≤ x.toInt)
    (hhi : x.toInt < 2 ^ (f.bits - 1)) : readComponent f (storeInt f.bits x) = x := by
  have hpow : (2 : Int) ^ (f.bits - 1) * 2 = 2 ^ f.bits := pow_sub_one_mul (format_bits_pos f).ne' 2
  have hdvd : 2 ^ f.bits ∣ 2 ^ 32 := pow_dvd_pow 2 (format_bits_lt_lane f).le
  apply BitVec.eq_of_toInt_eq
  rw [readComponent_of_signed _ hs, readSigned_toInt _ (format_bits_lt_lane f).le]
  calc (storeInt f.bits x).toInt
      = (x.toNat : Int).bmod (2 ^ f.bits) := BitVec.toInt_setWidth x
    _ = x.toInt.bmod (2 ^ f.bits) := by rw [BitVec.toInt_eq_toNat_bmod, Int.bmod_bmod_of_dvd hdvd]
    _ = x.toInt := Int.bmod_eq_of_le_mul_two (by push_cast; omega) (by push_cast; omega)

/-- A lane that an unsigned component can hold comes back from it. -/
theorem readComponent_storeInt_of_unsigned (hs : f.signed = false) (hx : x.toNat < 2 ^ f.bits) :
    readComponent f (storeInt f.bits x) = x := by
  apply BitVec.eq_of_toNat_eq
  rw [readComponent_of_unsigned _ hs, readUnsigned_toNat _ (format_bits_lt_lane f).le, storeInt_toNat,
    Nat.mod_eq_of_lt hx]

/-- What a component read into a lane can be. -/
theorem readComponent_range :
    (f.signed = true → -(2 ^ (f.bits - 1) : Int) ≤ (readComponent f c).toInt ∧
      (readComponent f c).toInt < 2 ^ (f.bits - 1)) ∧
    (f.signed = false → (readComponent f c).toNat < 2 ^ f.bits) := by
  refine ⟨fun hs => ?_, fun hs => ?_⟩
  · rw [readComponent_of_signed c hs, readSigned_toInt _ (format_bits_lt_lane f).le]
    exact ⟨BitVec.le_toInt c, BitVec.toInt_lt⟩
  · rw [readComponent_of_unsigned c hs, readUnsigned_toNat _ (format_bits_lt_lane f).le]
    exact c.isLt

end Components

/-! The four operations. -/

/-- Settles O25: FROMP responds with the packed integer of `A`. -/
theorem frompKeepsTheLowBits : Obligations.FrompKeepsTheLowBits := fun f s =>
  ⟨(Operation.fromp f).encode_noLen, _, exec_fromp f s, onlyResponse_respond _ _ s, rfl,
    packedResult_toNat f.width (format_width_le f) s.latch.a⟩

/-- Settles O26: PACK responds with fields, whose sum `packFields_toNat` is, and each field is the low bits of its
lane. -/
theorem packStoresLowBitsOfEachLane : Obligations.PackStoresLowBitsOfEachLane := by
  refine fun f s => ⟨(Operation.pack f).encode_noLen, _, exec_pack f s, onlyResponse_respond _ _ s, rfl, ?_⟩
  rw [respondFields_rspData, packFields_toNat _ (format_bits_pos f) (format_fields_fit f)]
  exact Finset.sum_congr rfl fun i _ => by rw [storeInt_lane_toNat (format_bits_lt_lane f).le]

/-- Settles O27: UNPACK responds with one lane per component, which `readComponent_toInt` reads as an integer. -/
theorem unpackReadsEachComponent : Obligations.UnpackReadsEachComponent := by
  intro f s
  obtain ⟨honly, hstatus, hlanes, hzero⟩ :=
    answersFields_respondFields (fun i => readComponent f (field f.bits i s.latch.a)) s (by decide) (format_lanes_fit f)
  refine ⟨(Operation.unpack f).encode_noLen, _, exec_unpack_readComponent f s, honly, hstatus, fun i hi => ?_, hzero⟩
  rw [hlanes i hi, readComponent_toInt, field_toNat]

/-- Settles O28: packed integers are equal exactly when the buses agree modulo `2^W`. -/
theorem cmpeqComparesTheLowBits : Obligations.CmpeqComparesTheLowBits := by
  refine fun f s => ⟨(Operation.cmpeq f).encode_noLen, _, exec_cmpeq f s, onlyResponse_respond _ _ s, rfl, ?_⟩
  simp only [respond_rspData, verdict, beq_iff_eq, packed_eq_iff]

/-- A lane of a result made of lanes. -/
theorem lane_packFields {f : Format} {i : Nat} (hi : i < f.arity) (g : Nat → Lane) :
    lane (packFields 32 g f.arity) i = g i :=
  packFields_extract 32 (by decide) g f.arity i (format_lanes_fit f) hi

/-- A component of a packed integer made of components. -/
theorem field_packFields {f : Format} {i : Nat} (hi : i < f.arity) (g : Nat → BitVec f.bits) :
    field f.bits i (packFields f.bits g f.arity) = g i :=
  packFields_extract f.bits (format_bits_pos f) g f.arity i (format_fields_fit f) hi

/-- PACK stores the components that UNPACK has read: together they are FROMP (41_construct_pack R138). -/
theorem answer_pack_unpack (f : Format) (p b c b' c' : Bus) :
    answer (command (.pack f) (answer (command (.unpack f) p b c)).data b' c') = ⟨0, packedResult f.width p⟩ := by
  have hstore : ∀ i, i < f.arity → storeInt f.bits (lane (answer (command (.unpack f) p b c)).data i) =
      field f.bits i p := fun i hi => by
    rw [answer_unpack_readComponent, lane_packFields hi, storeInt_readComponent]
  rw [answer_pack, packFields_congr hstore, packFields_field (format_bits_pos f) (format_fields_fit f),
    format_bits_mul_arity]

/-- UNPACK reads back, lane by lane, the components that PACK has stored (41_construct_pack R138). -/
theorem lane_unpack_pack {f : Format} {i : Nat} (hi : i < f.arity) (p b c b' c' : Bus) :
    lane (answer (command (.unpack f) (answer (command (.pack f) p b c)).data b' c')).data i =
      readComponent f (storeInt f.bits (lane p i)) := by
  rw [answer_unpack_readComponent, lane_packFields hi, answer_pack, field_packFields hi]

/-- FROMP changes nothing in what PACK answers (41_construct_pack R138). -/
theorem answer_fromp_pack (f : Format) (p b c b' c' : Bus) :
    answer (command (.fromp f) (answer (command (.pack f) p b c)).data b' c') = answer (command (.pack f) p b c) := by
  rw [answer_fromp, answer_pack, ← format_bits_mul_arity,
    packedResult_packFields _ (format_bits_pos f) (format_fields_fit f)]

/-- Settles O29: stored components are the components read, and a lane read from what was stored is the lane itself when
the component can hold it. -/
theorem packAndUnpackAreInverse : Obligations.PackAndUnpackAreInverse := by
  intro f p b c b' c'
  have hfromp := packedResult_toNat f.width (format_width_le f) p
  refine ⟨by rw [answer_pack_unpack, hfromp], fun i hi => ?_, by rw [answer_fromp, hfromp],
    answer_fromp_pack f p b c b' c'⟩
  rw [lane_unpack_pack hi]
  obtain ⟨hsigned, hunsigned⟩ := readComponent_range (storeInt f.bits (lane p i))
  refine ⟨readComponent_storeInt_mod _, fun hs => ?_, fun hs =>
    ⟨hunsigned hs, readComponent_storeInt_of_unsigned _ hs⟩⟩
  obtain ⟨hlo, hhi⟩ := hsigned hs
  exact ⟨hlo, hhi, readComponent_storeInt_of_signed _ hs⟩

end Sys2Proof.Machine
end

section
/-!
PROOFS. ENC and ENCS (42_encode R160, R161, R190): the fields are the lane functions of the lanes, and ENCS looks at its
count before it looks at a lane.
-/

namespace Sys2Proof.Machine

/-- ENC answers the lane functions of its lanes. -/
theorem enc_answersFields (f : Format) (s : State) :
    ∃ t, exec (.enc f) s = .next t ∧
      AnswersFields f.bits f.arity (fun i => encLane f (s.latch.a.extractLsb' (32 * i) 32)) s t :=
  ⟨_, exec_enc f s, answersFields_respondFields _ s (format_bits_pos f) (format_fields_fit f)⟩

/-- Too small a count raises, whatever the lanes hold. -/
theorem exec_encs_of_lt {f : Format} {len : Nat} (s : State) (h : len < f.arity) :
    exec (.encs len f) s = .next (raise .invalidArgument s) := by
  rw [exec_encs, lengthChecked, if_pos h]

/-- A sufficient count makes ENCS the ENC of its format. -/
theorem exec_encs_of_le {f : Format} {len : Nat} (s : State) (h : f.arity ≤ len) :
    exec (.encs len f) s = exec (.enc f) s := by
  rw [exec_encs, lengthChecked, if_neg h.not_gt]

/-- The word of ENCS with a 3-bit count (30_encoding R60, R63). -/
theorem encode_encs_toNat {len : Nat} (f : Format) (h : len < 8) :
    (encode (.encs len f)).toNat = 0x0005 + 16 * f.code + 512 * len := by
  rw [encode_toNat, (Operation.encs len f).fields_eq, Nat.mod_eq_of_lt h]
  ring

/-- Settles O30: ENC responds with its fields. -/
theorem encQuantizesEachLane : Obligations.EncQuantizesEachLane := fun f s =>
  ⟨(Operation.enc f).encode_noLen, enc_answersFields f s⟩

/-- Settles O31: the length check either raises or leaves ENC. -/
theorem encsChecksTheLength : Obligations.EncsChecksTheLength := by
  refine fun f len s => ⟨encode_encs_toNat f, exec_encs_of_lt s, fun h => ?_⟩
  rw [exec_encs_of_le s h]
  exact ⟨rfl, enc_answersFields f s⟩

end Sys2Proof.Machine
end

section
/-!
PROOFS. How far one rounding moves a value (00_scope R13): it passes no binary32 value, and it moves a quotient below
`2^(k+24)` units by at most half a step of `2^k`. These two facts bound the errors of the products, sums and quotients of
encoding and decoding.
-/

namespace Sys2Proof.Machine

section Neighbour

variable {p num den lo r b : Nat}

/-- Rounding a quotient at or below a pattern does not pass it. -/
theorem NearerNeighbour.le_of_le (h : NearerNeighbour p num den lo r) (hd : 0 < den)
    (hb : num ≤ patternMagnitude p b * den) : r ≤ b := by
  obtain ⟨hlo, -, hnear⟩ := h
  have hmono := patternMagnitude_strictMono p
  have hlob : lo ≤ b := hmono.le_iff_le.mp (Nat.le_of_mul_le_mul_right (hlo.trans hb) hd)
  rcases hlob.lt_or_eq with hlt | rfl
  · omega
  · have hlt : patternMagnitude p lo * den < patternMagnitude p (lo + 1) * den :=
      Nat.mul_lt_mul_of_pos_right (hmono (Nat.lt_succ_self lo)) hd
    rw [Nat.add_mul] at hnear
    omega

/-- Rounding a quotient at or above a pattern does not pass it. -/
theorem NearerNeighbour.le_of_ge (h : NearerNeighbour p num den lo r)
    (hb : patternMagnitude p b * den ≤ num) : b ≤ r := by
  obtain ⟨-, hhi, hnear⟩ := h
  have hlt : b < lo + 1 :=
    (patternMagnitude_strictMono p).lt_iff_lt.mp (Nat.lt_of_mul_lt_mul_right (hb.trans_lt hhi))
  omega

end Neighbour

/-- A quotient that is the magnitude of a pattern of the format rounds to that pattern. -/
theorem roundMagnitude_patternMagnitude {p top b den : Nat} (hp : 0 < p) (hd : 0 < den) (hb : b ≤ top) :
    roundMagnitude p top (patternMagnitude p b * den) den = b := by
  have hnear := roundedPattern_nearer (num := patternMagnitude p b * den) hp hd
  rw [roundMagnitude_eq, (hnear.le_of_le hd le_rfl).antisymm (hnear.le_of_ge le_rfl), min_eq_right hb]

/-- The rounded pattern stands for the nearest whole number of grid steps. -/
theorem patternMagnitude_roundedPattern (p num : Nat) {den : Nat} (hd : 0 < den) :
    patternMagnitude p (roundedPattern p num den) =
      nearestEven num (den * 2 ^ gridExponent p num den) * 2 ^ gridExponent p num den := by
  obtain ⟨hlo, hhi⟩ := gridQuotient_bounds p num den
  have hcases := nearestEven_eq_div_or (num := num) (den := den * 2 ^ gridExponent p num den) (by positivity)
  exact patternMagnitude_grid (by omega) (by omega)

/-- The grid of a quotient below `2^(k+p+1)` units has steps of at most `2^k`. -/
theorem gridExponent_le {p num den k : Nat} (hlt : num < 2 ^ (k + p + 1) * den) : gridExponent p num den ≤ k := by
  unfold gridExponent
  rcases Nat.eq_zero_or_pos (num / den) with h | h
  · simp [h]
  · have := (Nat.log2_lt h.ne').mpr (Nat.div_lt_of_lt_mul (Nat.mul_comm den _ ▸ hlt))
    omega

/-- Rounding moves a quotient by at most half a step of its grid. -/
theorem roundedPattern_error {p num den k : Nat} (hd : 0 < den) (hlt : num < 2 ^ (k + p + 1) * den) :
    2 * |(patternMagnitude p (roundedPattern p num den) : Int) * den - num| ≤ 2 ^ k * den := by
  have hk : den * 2 ^ gridExponent p num den ≤ den * 2 ^ k :=
    Nat.mul_le_mul_left den (Nat.pow_le_pow_right (by norm_num) (gridExponent_le hlt))
  rw [patternMagnitude_roundedPattern p num hd]
  generalize gridExponent p num den = g at *
  obtain ⟨hup, hdown, -⟩ := nearestEven_spec num (den * 2 ^ g) (by positivity)
  generalize nearestEven num (den * 2 ^ g) = q at *
  zify at hup hdown hk
  rcases abs_cases (((q * 2 ^ g : Nat) : Int) * den - num) with ⟨h, -⟩ | ⟨h, -⟩ <;> rw [h] <;> push_cast <;> linarith

/-- `y` is the rational `num / den`, in units of 2^-149, after one rounding that does not overflow. -/
structure RoundsValue (num : Int) (den : Nat) (y : Lane) : Prop where
  finite : isFinite y = true
  le : ∀ {b : Lane}, num ≤ value b * den → value y ≤ value b
  ge : ∀ {b : Lane}, value b * den ≤ num → value b ≤ value y
  error : ∀ k, |num| < 2 ^ (k + 24) * den → 2 * |value y * den - num| ≤ 2 ^ k * den

/-- A number of sign `s` and magnitude `n` is at most one of sign `t` and magnitude `m` when the magnitudes are ordered so,
each order as far as the quotients `num / den` and `m` ask for it. -/
theorem signedNat_le_of_mul_le {s t : Bool} {num den n m : Nat} (hd : 0 < den)
    (h : signedNat s num ≤ signedNat t (m * den)) (hle : num ≤ m * den → n ≤ m) (hge : m * den ≤ num → m ≤ n) :
    signedNat s n ≤ signedNat t m := by
  cases s <;> cases t <;> simp only [signedNat, if_true, if_false, Bool.false_eq_true] at h ⊢
  · have := hle (by omega)
    omega
  · have hm : m * den = 0 := by omega
    have := hle (by omega)
    have := (Nat.mul_eq_zero.mp hm).resolve_right hd.ne'
    omega
  · omega
  · have := hge (by omega)
    omega

theorem signedNat_not (neg : Bool) (n : Nat) : signedNat (!neg) n = -signedNat neg n := by
  cases neg <;> simp [signedNat]

theorem abs_signedNat (neg : Bool) (n : Nat) : |signedNat neg n| = n := by
  cases neg <;> simp [signedNat]

/-- The magnitude of a rounded lane that does not overflow is that of its rounded pattern. -/
theorem magnitude_rne32 (neg : Bool) {num den : Nat} (hd : 0 < den) (hlt : num < 2 ^ 200 * den) :
    isFinite (rne32 neg num den) = true ∧
      magnitude (rne32 neg num den) = patternMagnitude 23 (roundedPattern 23 num den) := by
  obtain ⟨hle, htop, -⟩ := rne32_roundsTo neg num hd
  have hfin : (rne32 neg num den).toNat % 2 ^ 31 < 0x7F800000 :=
    lt_of_le_of_ne hle fun h => absurd (htop.mp h) (by omega)
  refine ⟨(isFinite_iff_fields _).mpr hfin, ?_⟩
  rw [rne32_fields, roundMagnitude_eq] at hfin
  rw [magnitude_eq, rne32_fields, roundMagnitude_eq, min_eq_right (by omega)]

/-- `rne32` rounds its quotient, sign included. -/
theorem rne32_roundsValue (neg : Bool) {num den : Nat} (hd : 0 < den) (hlt : num < 2 ^ 200 * den) :
    RoundsValue (signedNat neg num) den (rne32 neg num den) := by
  obtain ⟨hfin, hmag⟩ := magnitude_rne32 neg hd hlt
  have hval : value (rne32 neg num den) = signedNat neg (magnitude (rne32 neg num den)) := by
    rw [value_eq_signedNat, signBit_rne32]
  have hnear := roundedPattern_nearer (p := 23) (num := num) (by norm_num) hd
  have hmono := (patternMagnitude_strictMono 23).monotone
  have hle {b : Lane} (h : num ≤ magnitude b * den) : magnitude (rne32 neg num den) ≤ magnitude b := by
    rw [magnitude_eq b] at h ⊢
    exact hmag ▸ hmono (hnear.le_of_le hd h)
  have hge {b : Lane} (h : magnitude b * den ≤ num) : magnitude b ≤ magnitude (rne32 neg num den) := by
    rw [magnitude_eq b] at h ⊢
    exact hmag ▸ hmono (hnear.le_of_ge h)
  refine ⟨hfin, fun {b} h => ?_, fun {b} h => ?_, fun k hk => ?_⟩
  · rw [value_eq_signedNat b, ← signedNat_mul] at h
    exact hval ▸ signedNat_le_of_mul_le hd h hle hge
  · rw [value_eq_signedNat b, ← signedNat_mul, ← neg_le_neg_iff, ← signedNat_not, ← signedNat_not] at h
    rw [hval, value_eq_signedNat b, ← neg_le_neg_iff, ← signedNat_not, ← signedNat_not]
    exact signedNat_le_of_mul_le hd h hle hge
  · rw [abs_signedNat] at hk
    rw [hval, hmag, ← signedNat_mul, abs_signedNat_sub, Nat.cast_mul]
    exact roundedPattern_error hd (by exact_mod_cast hk)

theorem signedNat_xor_mul (s t : Bool) (n m : Nat) :
    signedNat (s ^^ t) (n * m) = signedNat s n * signedNat t m := by
  cases s <;> cases t <;> simp [signedNat]

section Primitives

variable {x y : Lane}

/-- A product of finite lanes that does not overflow. -/
theorem fmul32_roundsValue (hx : isFinite x = true) (hy : isFinite y = true)
    (h : magnitude x * magnitude y < 2 ^ 200 * one) : RoundsValue (value x * value y) one (fmul32 x y) := by
  rw [fmul32_of_isFinite hx hy, value_eq_signedNat, value_eq_signedNat, ← signedNat_xor_mul]
  exact rne32_roundsValue _ (by decide) h

/-- A quotient of a finite lane by a positive one that does not overflow. -/
theorem fdiv32_roundsValue (hx : isFinite x = true) (hy : isFinite y = true) (hpos : 0 < value y)
    (h : magnitude x * one < 2 ^ 200 * magnitude y) :
    RoundsValue (value x * one) (magnitude y) (fdiv32 x y) := by
  have hsign : signBit y = false := by
    by_contra hs
    rw [value, if_pos (by simpa using hs)] at hpos
    omega
  have hzero : isZero y = false := by
    rw [← Bool.not_eq_true, ← value_eq_zero_iff]
    omega
  rw [fdiv32_of_isFinite hx hy hzero, hsign, Bool.xor_false, value_eq_signedNat, ← signedNat_mul]
  exact rne32_roundsValue _ (magnitude_pos hzero) h

/-- A sum of finite lanes that does not overflow and is not zero. -/
theorem fadd32_roundsValue (hx : isFinite x = true) (hy : isFinite y = true) (hsum : value x + value y ≠ 0)
    (h : |value x + value y| < 2 ^ 200) : RoundsValue (value x + value y) 1 (fadd32 x y) := by
  rw [fadd32_of_sum_ne_zero hx hy hsum]
  have hval : value x + value y = signedNat (decide (value x + value y < 0)) (value x + value y).natAbs := by
    by_cases hneg : value x + value y < 0 <;> simp only [signedNat, hneg, decide_true, decide_false, if_true,
      Bool.false_eq_true, if_false] <;> omega
  have hround := rne32_roundsValue (decide (value x + value y < 0)) (num := (value x + value y).natAbs) Nat.one_pos
    (by rw [Int.abs_eq_natAbs] at h; omega)
  rwa [← hval] at hround

end Primitives

end Sys2Proof.Machine
end

section
/-!
PROOFS. The stages that the encoders of the integer families share (42_encode R162 to R166): the clamp as a value, the whole
number of ones chosen, and narrowing.
-/

namespace Sys2Proof.Machine

section Stages

variable {v lo hi x : Lane}

theorem value_fmax (hv : isNaN v = false) (hlo : isNaN lo = false) :
    isNaN (fmax v lo) = false ∧ value (fmax v lo) = max (value v) (value lo) := by
  rcases fmax_cases v lo with ⟨h, heq⟩ | ⟨h, heq⟩ <;> rw [fgt_eq_of_not_isNaN hv hlo] at h <;> rw [heq]
  · exact ⟨hv, (max_eq_left (of_decide_eq_true h).le).symm⟩
  · exact ⟨hlo, (max_eq_right (not_lt.mp (of_decide_eq_false h))).symm⟩

theorem value_fmin (hv : isNaN v = false) (hhi : isNaN hi = false) :
    value (fmin v hi) = min (value v) (value hi) := by
  rcases fmin_cases v hi with ⟨h, heq⟩ | ⟨h, heq⟩ <;> rw [fgt_eq_of_not_isNaN hhi hv] at h <;> rw [heq]
  · exact (min_eq_left (of_decide_eq_true h).le).symm
  · exact (min_eq_right (not_lt.mp (of_decide_eq_false h))).symm

/-- With bounds in order the clamp moves a value to the nearer end of the bounds, and a NaN to the lower one. -/
theorem value_clamp1 (hlo : isFinite lo = true) (hhi : isFinite hi = true) (hlt : value lo < value hi) :
    value (clamp1 v lo hi) = if isNaN v then value lo else max (value lo) (min (value hi) (value v)) := by
  have hlo := isNaN_of_isFinite hlo
  have hhi := isNaN_of_isFinite hhi
  cases hv : isNaN v with
  | true => rw [clamp1_of_below (.inl (fgt_iff.mpr ⟨hhi, hlo, hlt⟩)) (.inr hv), if_pos rfl]
  | false =>
    obtain ⟨hnan, hmax⟩ := value_fmax hv hlo
    rw [clamp1, value_fmin hnan hhi, hmax, if_neg Bool.false_ne_true]
    omega

/-- A whole number of ones that is less than one away from another is that one. -/
theorem eq_of_near_whole {n k u : Int} (h : |n * one - u| + |u - k * one| < one) : n = k := by
  have hone : (0 : Int) < one := by decide
  have hdiff : |n - k| * (one : Int) < 1 * one :=
    calc |n - k| * (one : Int) = |(n - k) * one| := by rw [abs_mul, abs_of_pos hone]
      _ = |n * one - u + (u - k * one)| := by ring_nf
      _ ≤ |n * one - u| + |u - k * one| := abs_add_le _ _
      _ < 1 * one := by rwa [one_mul]
  have := Int.abs_lt_one_iff.mp (lt_of_mul_lt_mul_right hdiff hone.le)
  omega

/-- The nearest whole number to a whole number. -/
theorem NearestEvenInt.eq_of_whole {n k u : Int} (h : NearestEvenInt n u) (hu : u = k * one) : n = k := by
  have hone : (0 : Int) < one := by decide
  refine eq_of_near_whole (u := u) ?_
  rw [hu, sub_self, abs_zero, add_zero, ← hu]
  linarith [h.1]

/-- `Round1` of a finite lane reads as the nearest even integer of its value, within the value's whole bounds. -/
theorem f2i_round1 (hx : isFinite x = true) :
    NearestEvenInt (f2i (round1 x)) (value x) ∧
      ∀ {l u : Int}, l * one ≤ value x → value x ≤ u * one → l ≤ f2i (round1 x) ∧ f2i (round1 x) ≤ u := by
  have hone : (0 : Int) < one := by decide
  have hnear := nearestEvenInt_value x
  rw [f2i_eq_of_value (round1_isWhole hx).value_eq]
  exact ⟨hnear, between_of_abs_sub_lt_one (by linarith [hnear.1])⟩

/-- `Trunc1` of a lane that is not negative reads as the whole part of its value. -/
theorem f2i_trunc1 (hx : isFinite x = true) (hpos : 0 ≤ value x) : f2i (trunc1 x) = value x / one := by
  rw [f2i_eq_of_value (trunc1_isWhole hx).value_eq]
  rw [value] at hpos ⊢
  cases hs : signBit x <;> rw [hs] at hpos
  · simp [signedNat]
  · obtain hmag : magnitude x = 0 := by simpa using hpos
    simp [signedNat, hmag]

/-- An integer representable without a sign is stored whole. -/
theorem ofInt_toNat {w : Nat} {n : Int} (hlo : 0 ≤ n) (hhi : n < 2 ^ w) : ((BitVec.ofInt w n).toNat : Int) = n := by
  rw [BitVec.toNat_ofInt, Int.toNat_of_nonneg (Int.emod_nonneg _ (by positivity))]
  exact Int.emod_eq_of_lt hlo (by exact_mod_cast hhi)

/-- Narrowing keeps an integer that is representable in two's complement. -/
theorem narrow_toInt {w : Nat} (hw : 0 < w) (hlo : -2 ^ (w - 1) ≤ f2i x) (hhi : f2i x < 2 ^ (w - 1)) :
    (narrow w x).toInt = f2i x :=
  BitVec.toInt_ofInt_eq_self hw hlo hhi

/-- Narrowing keeps an integer that is representable without a sign. -/
theorem narrow_toNat {w : Nat} (hlo : 0 ≤ f2i x) (hhi : f2i x < 2 ^ w) : ((narrow w x).toNat : Int) = f2i x :=
  ofInt_toNat hlo hhi

end Stages

end Sys2Proof.Machine
end

section
/-!
PROOFS. The raw encode lane functions (42_encode R163, R164): the clamp between two integers, then the nearest even integer.
-/

namespace Sys2Proof.Machine

/-- The scale of the signed families at the two element widths (00_scope R16). -/
theorem signedScale_range {w : Nat} (hw : w = 8 ∨ w = 16) :
    0 < signedScale w ∧ signedScale w < 2 ^ (w - 1) ∧ signedScale w ≤ 65535 := by
  rcases hw with rfl | rfl <;> decide

/-- The scale of the unsigned families at the two element widths (00_scope R16). -/
theorem unsignedScale_range {w : Nat} (hw : w = 8 ∨ w = 16) :
    0 < unsignedScale w ∧ unsignedScale w < 2 ^ w ∧ unsignedScale w ≤ 65535 := by
  rcases hw with rfl | rfl <;> decide

theorem i2f32_zero : i2f32 0 = 0x00000000#32 := integersConvertExactly.2

section Raw

variable {v : Lane} {lo hi : Int}

/-- The clamp between two integers of at most 16 bits. -/
theorem clamp1_i2f32_between (v : Lane) (hlo : |lo| ≤ 65535) (hhi : |hi| ≤ 65535) (hle : lo ≤ hi) :
    isFinite (clamp1 v (i2f32 lo) (i2f32 hi)) = true ∧ lo * one ≤ value (clamp1 v (i2f32 lo) (i2f32 hi)) ∧
      value (clamp1 v (i2f32 lo) (i2f32 hi)) ≤ hi * one := by
  obtain ⟨flo, vlo⟩ := i2f32_exact hlo
  obtain ⟨fhi, vhi⟩ := i2f32_exact hhi
  have hle : lo * (one : Int) ≤ hi * one := mul_le_mul_of_nonneg_right hle (by decide)
  rw [← vlo, ← vhi] at *
  exact clamp1_between flo fhi hle

/-- The value of the clamp between two integers of at most 16 bits; a NaN clamps to the lower one. -/
theorem value_clamp1_i2f32 (hlo : |lo| ≤ 65535) (hhi : |hi| ≤ 65535) (hlt : lo < hi) :
    value (clamp1 v (i2f32 lo) (i2f32 hi)) =
      if isNaN v then lo * one else max (lo * one) (min (hi * one) (value v)) := by
  obtain ⟨flo, vlo⟩ := i2f32_exact hlo
  obtain ⟨fhi, vhi⟩ := i2f32_exact hhi
  have hlt : lo * (one : Int) < hi * one := mul_lt_mul_of_pos_right hlt (by decide)
  rw [← vlo, ← vhi] at *
  exact value_clamp1 flo fhi hlt

/-- What the clamp between two integers and `Round1` choose of a lane. -/
theorem f2i_round1_clamp1 (v : Lane) (hlo : |lo| ≤ 65535) (hhi : |hi| ≤ 65535) (hlt : lo < hi) :
    let n := f2i (round1 (clamp1 v (i2f32 lo) (i2f32 hi)))
    (isNaN v = true ∨ v = 0xFF800000 → n = lo) ∧ (v = 0x7F800000 → n = hi) ∧
      (isFinite v = true → NearestEvenInt n (max (lo * one) (min (hi * one) (value v)))) ∧ lo ≤ n ∧ n ≤ hi := by
  obtain ⟨hfin, hge, hle⟩ := clamp1_i2f32_between v hlo hhi hlt.le
  obtain ⟨hnear, hrange⟩ := f2i_round1 hfin
  have hval := value_clamp1_i2f32 (v := v) hlo hhi hlt
  have hscaled {a b : Int} (h : a ≤ b) : a * (one : Int) ≤ b * one := mul_le_mul_of_nonneg_right h (by decide)
  have hlo' := hscaled (neg_le_of_abs_le hlo)
  have hhi' := hscaled (le_of_abs_le hhi)
  have hlohi := hscaled hlt.le
  refine ⟨?_, ?_, fun hv => ?_, hrange hge hle⟩
  · rintro (hnan | rfl)
    · exact hnear.eq_of_whole (by rw [hval, if_pos hnan])
    · have hinf : value 0xFF800000 ≤ -65535 * one := by decide +kernel
      exact hnear.eq_of_whole (hval.trans (by rw [if_neg (by decide)]; omega))
  · rintro rfl
    have hinf : 65535 * one ≤ value 0x7F800000 := by decide +kernel
    exact hnear.eq_of_whole (hval.trans (by rw [if_neg (by decide)]; omega))
  · rwa [hval, isNaN_of_isFinite hv, if_neg Bool.false_ne_true] at hnear

end Raw

/-- Settles O46: the integer chosen is representable in two's complement. -/
theorem encRawSignedRoundsTheClampedValue : Obligations.EncRawSignedRoundsTheClampedValue := by
  intro w hw v
  obtain ⟨hpos, hlt, hle⟩ := signedScale_range hw
  obtain ⟨hlow, hhigh, hnear, hmin, hmax⟩ := f2i_round1_clamp1 v (lo := -signedScale w) (hi := signedScale w)
    (by rw [abs_neg, abs_of_pos hpos]; exact hle) (by rw [abs_of_pos hpos]; exact hle) (by omega)
  have hint : (encRawSigned w v).toInt =
      f2i (round1 (clamp1 v (i2f32 (-signedScale w)) (i2f32 (signedScale w)))) :=
    narrow_toInt (by omega) (by omega) (by omega)
  dsimp only
  rw [hint]
  exact ⟨hlow, hhigh, hnear, hmin, hmax⟩

/-- Settles O47: the integer chosen is representable without a sign. -/
theorem encRawUnsignedRoundsTheClampedValue : Obligations.EncRawUnsignedRoundsTheClampedValue := by
  intro w hw v
  obtain ⟨hpos, hlt, hle⟩ := unsignedScale_range hw
  obtain ⟨hlow, hhigh, hnear, hmin, hmax⟩ := f2i_round1_clamp1 v (lo := 0) (hi := unsignedScale w)
    (by decide) (by rw [abs_of_pos hpos]; exact hle) hpos
  have hnat : ((encRawUnsigned w v).toNat : Int) = f2i (round1 (clamp1 v (i2f32 0) (i2f32 (unsignedScale w)))) := by
    rw [encRawUnsigned, ← i2f32_zero]
    exact narrow_toNat hmin (by omega)
  dsimp only
  rw [hnat]
  rw [zero_mul] at hnear
  exact ⟨hlow, hhigh, hnear⟩

end Sys2Proof.Machine
end

section
/-!
PROOFS. The normalized encode lane functions (42_encode R165, R166): the product with the scale, and with one half added,
each rounded once, stay within the scale's bounds and near the exact number.
-/

namespace Sys2Proof.Machine

section Scaled

variable {x : Lane} {m : Int}

/-- A lane of the unit interval times an integer of at most 16 bits: how far one rounding can take it. -/
theorem fmul32_scale (hx : isFinite x = true) (hunit : |value x| ≤ one) (hpos : 0 < m) (hm : m ≤ 65535) :
    isFinite (fmul32 x (i2f32 m)) = true ∧ |value (fmul32 x (i2f32 m))| ≤ m * one ∧
      (0 ≤ value x → 0 ≤ value (fmul32 x (i2f32 m))) ∧
      2 * |value (fmul32 x (i2f32 m)) - value x * m| ≤ 2 ^ 141 := by
  have hone : (0 : Int) < one := by decide
  obtain ⟨hfin, hval⟩ := i2f32_exact (n := m) (by rw [abs_of_pos hpos]; exact hm)
  obtain ⟨-, hvalneg⟩ := i2f32_exact (n := -m) (by rw [abs_neg, abs_of_pos hpos]; exact hm)
  obtain ⟨hlower, hupper⟩ := abs_le.mp hunit
  have hscale : 0 ≤ m * (one : Int) := by positivity
  have hmag : magnitude x * magnitude (i2f32 m) < 2 ^ 200 * one := by
    have hx : magnitude x ≤ one := by rw [← natAbs_value]; omega
    have hy : magnitude (i2f32 m) ≤ 65535 * one := by
      have := mul_le_mul_of_nonneg_right hm hone.le
      rw [← natAbs_value, hval]
      omega
    exact (Nat.mul_le_mul hx hy).trans_lt (by decide)
  obtain ⟨hpfin, hle, hge, herror⟩ := fmul32_roundsValue hx hfin hmag
  rw [hval] at hle hge herror
  refine ⟨hpfin, abs_le.mpr ⟨?_, ?_⟩, fun h => ?_, ?_⟩
  · rw [← neg_mul, ← hvalneg]
    exact hge (by rw [hvalneg]; nlinarith)
  · rw [← hval]
    exact hle (by rw [hval]; nlinarith)
  · exact hge (b := 0) (by rw [show value 0 = 0 by decide, zero_mul]; positivity)
  · have hlt : |value x * (m * one)| < 2 ^ (141 + 24) * one := by
      rw [abs_mul, abs_of_nonneg hscale]
      calc |value x| * (m * one) ≤ one * (65535 * one) := by gcongr
        _ < 2 ^ (141 + 24) * one := by decide
    have hfactor : value (fmul32 x (i2f32 m)) * one - value x * (m * one) =
        (value (fmul32 x (i2f32 m)) - value x * m) * one := by ring
    have := herror 141 hlt
    rw [hfactor, abs_mul, abs_of_pos hone, ← mul_assoc] at this
    exact le_of_mul_le_mul_right this hone

/-- A whole number of halves of at most 17 bits is the value of a lane. -/
theorem exists_value_eq_halves {n : Nat} (hn : n < 2 ^ 24) : ∃ b : Lane, value b = n * 2 ^ 148 := by
  have hlt : n * 2 ^ 148 < 2 ^ (148 + 24) := by omega
  obtain ⟨-, hmag⟩ := rne32_exact false (gridStep_dvd_of_lt (Nat.dvd_mul_left (2 ^ 148) n) hlt) (by omega)
  refine ⟨rne32 false (n * 2 ^ 148) 1, ?_⟩
  rw [value_eq_signedNat, signBit_rne32, hmag]
  simp [signedNat]

/-- A lane from 0 to 1 times an integer of at most 16 bits, plus one half: how far the two roundings can take it. -/
theorem madd1_scale_half (hx : isFinite x = true) (hnonneg : 0 ≤ value x) (hle : value x ≤ one) (hpos : 0 < m)
    (hm : m ≤ 65535) :
    isFinite (madd1 x (i2f32 m) 0x3F000000#32) = true ∧ 0 ≤ value (madd1 x (i2f32 m) 0x3F000000#32) ∧
      2 * value (madd1 x (i2f32 m) 0x3F000000#32) ≤ (2 * m + 1) * one ∧
      |2 * (value (madd1 x (i2f32 m) 0x3F000000#32) - value x * m) - one| ≤ 2 ^ 142 := by
  have hunit : |value x| ≤ one := by rwa [abs_of_nonneg hnonneg]
  obtain ⟨hfin, hprod, hprod0, herror⟩ := fmul32_scale hx hunit hpos hm
  have hprod0 := hprod0 hnonneg
  rw [abs_of_nonneg hprod0] at hprod
  have hhalf : value 0x3F000000#32 = 2 ^ 148 := by decide +kernel
  have hone : (one : Int) = 2 ^ 149 := rfl
  have hsum : 0 < value (fmul32 x (i2f32 m)) + value 0x3F000000#32 := by omega
  have hlt : |value (fmul32 x (i2f32 m)) + value 0x3F000000#32| < 2 ^ (141 + 24) := by
    have := mul_le_mul_of_nonneg_right hm (show (0 : Int) ≤ one by decide)
    rw [abs_of_pos hsum]
    omega
  obtain ⟨htfin, htle, htge, hterror⟩ := fadd32_roundsValue hfin (by decide) hsum.ne' (hlt.trans (by decide))
  refine ⟨htfin, htge (b := 0) ?_, ?_, ?_⟩
  · rw [show value 0 = 0 by decide]
    omega
  · obtain ⟨b, hb⟩ := exists_value_eq_halves (n := (2 * m + 1).toNat) (by omega)
    have := htle (b := b) (by rw [hb, hhalf]; rw [hone] at hprod; omega)
    rw [madd1, hone]
    omega
  · have := hterror 141 (by rwa [Nat.cast_one, mul_one])
    rw [Nat.cast_one, mul_one, hhalf] at this
    obtain ⟨hplo, hphi⟩ := abs_le.mp (show |value (fmul32 x (i2f32 m)) - value x * m| ≤ 2 ^ 140 by omega)
    obtain ⟨htlo, hthi⟩ := abs_le.mp (show
      |value (fadd32 (fmul32 x (i2f32 m)) 0x3F000000#32) - (value (fmul32 x (i2f32 m)) + 2 ^ 148)| ≤ 2 ^ 140 by omega)
    rw [madd1, hone]
    exact abs_le.mpr ⟨by omega, by omega⟩

end Scaled

section Lanes

variable {w : Nat} (hw : w = 8 ∨ w = 16) (v : Lane)

/-- The signed normalized clamp is in the unit interval. -/
theorem clamp1_unit (v : Lane) : isFinite (clamp1 v 0xBF800000#32 0x3F800000#32) = true ∧
    |value (clamp1 v 0xBF800000#32 0x3F800000#32)| ≤ one := by
  obtain ⟨hfin, hlo, hhi⟩ := clamp1_between (v := v) (lo := 0xBF800000#32) (hi := 0x3F800000#32)
    (by decide) (by decide) (by decide +kernel)
  exact ⟨hfin, abs_le.mpr ⟨hlo.trans' (by decide +kernel), hhi.trans (by decide +kernel)⟩⟩

include hw in
/-- What `EncSNorm` computes: the product does not pass the scale, and its nearest even integer is stored whole. -/
theorem encSNorm_spec :
    let p := fmul32 (clamp1 v 0xBF800000#32 0x3F800000#32) (i2f32 (signedScale w))
    isFinite p = true ∧ |value p| ≤ signedScale w * one ∧ (encSNorm w v).toInt = f2i (round1 p) ∧
      NearestEvenInt (f2i (round1 p)) (value p) ∧ -signedScale w ≤ f2i (round1 p) ∧
      f2i (round1 p) ≤ signedScale w := by
  obtain ⟨hpos, hlt, hle⟩ := signedScale_range hw
  obtain ⟨hcfin, hunit⟩ := clamp1_unit v
  obtain ⟨hfin, hbound, -, -⟩ := fmul32_scale hcfin hunit hpos hle
  obtain ⟨hnear, hrange⟩ := f2i_round1 hfin
  obtain ⟨hlo, hhi⟩ := abs_le.mp hbound
  obtain ⟨hmin, hmax⟩ := hrange (by rwa [neg_mul]) hhi
  exact ⟨hfin, hbound, narrow_toInt (by omega) (by omega) (by omega), hnear, hmin, hmax⟩

include hw in
/-- What `EncUNorm` computes: the biased product does not pass the scale by more than one half, and its whole part is
stored whole. -/
theorem encUNorm_spec :
    let t := madd1 (sat1 v) (i2f32 (unsignedScale w)) 0x3F000000#32
    isFinite t = true ∧ 0 ≤ value t ∧ 2 * value t ≤ (2 * unsignedScale w + 1) * one ∧
      ((encUNorm w v).toNat : Int) = value t / one ∧ f2i (trunc1 t) = value t / one ∧
      value t / one ≤ unsignedScale w := by
  obtain ⟨hpos, hlt, hle⟩ := unsignedScale_range hw
  obtain ⟨hsfin, hslo, hshi⟩ := kernelStaysInRange.2.2 v
  obtain ⟨hfin, hnonneg, hbound, -⟩ := madd1_scale_half hsfin hslo hshi hpos hle
  have hone : (0 : Int) < one := by decide
  have hwhole := f2i_trunc1 hfin hnonneg
  have hmin := Int.ediv_nonneg hnonneg hone.le
  have hmax : value (madd1 (sat1 v) (i2f32 (unsignedScale w)) 0x3F000000#32) / one ≤ unsignedScale w := by
    rw [← Int.lt_add_one_iff]
    exact Int.ediv_lt_of_lt_mul hone (by linarith)
  have hnat := narrow_toNat (hmin.trans_eq hwhole.symm) (hwhole.trans_lt (hmax.trans_lt hlt))
  exact ⟨hfin, hnonneg, hbound, hnat.trans hwhole, hwhole, hmax⟩

end Lanes

/-- Settles O48: the clamped lane is in the unit interval, and the product does not pass the scale. -/
theorem encSNormRoundsTheScaledLane : Obligations.EncSNormRoundsTheScaledLane := by
  intro w hw v
  obtain ⟨hfin, hbound, hint, hnear, hmin, hmax⟩ := encSNorm_spec hw v
  rw [← hint] at hnear hmin hmax
  exact ⟨hfin, hbound, hnear, hmin, hmax⟩

/-- Settles O49: the saturated lane is between 0 and 1, and the biased product does not pass the scale by more than one
half. -/
theorem encUNormTruncatesTheBiasedProduct : Obligations.EncUNormTruncatesTheBiasedProduct := by
  refine ⟨fun w hw v => ?_, by decide +kernel⟩
  obtain ⟨hfin, hnonneg, hbound, hnat, -, hmax⟩ := encUNorm_spec hw v
  exact ⟨hfin, hnonneg, hbound, hnat, hnat.trans_le hmax⟩

end Sys2Proof.Machine
end

section
/-!
PROOFS. `EncHalf` (42_encode R167): a half is its sign above 15 bits, and a finite lane rounds to them.
-/

namespace Sys2Proof.Machine

/-- One bit string above another, as a number. -/
theorem append_toNat {m n : Nat} (x : BitVec m) (y : BitVec n) : (x ++ y).toNat = x.toNat * 2 ^ n + y.toNat := by
  rw [BitVec.toNat_append, ← Nat.shiftLeft_add_eq_or_of_lt y.isLt, Nat.shiftLeft_eq]

/-- The number of a sign bit at bit 15. -/
def halfSign (neg : Bool) : Nat := if neg = true then 2 ^ 15 else 0

theorem ofBool_toNat_mul (neg : Bool) : (BitVec.ofBool neg).toNat * 2 ^ 15 = halfSign neg := by
  cases neg <;> rfl

theorem halfSign_div (neg : Bool) {n : Nat} (hn : n < 2 ^ 15) :
    (halfSign neg + n) / 2 ^ 15 = halfSign neg / 2 ^ 15 ∧ (halfSign neg + n) % 2 ^ 15 = n := by
  cases neg <;> simp only [halfSign, if_true, if_false, Bool.false_eq_true] <;> omega

/-- A rounded half is its sign and its rounded pattern. -/
theorem rne16_toNat (neg : Bool) (num den : Nat) :
    (rne16 neg num den).toNat = halfSign neg + roundMagnitude 10 0x7C00 num den := by
  have hle : roundMagnitude 10 0x7C00 num den ≤ 0x7C00 := min_le_left _ _
  rw [rne16, append_toNat, BitVec.toNat_ofNat, Nat.mod_eq_of_lt (by omega), ofBool_toNat_mul]

section Half

variable {x : Lane}

theorem encHalf_of_isNaN (h : isNaN x = true) :
    (encHalf x).toNat = halfSign (signBit x) + 0x7E00 + x.toNat / 2 ^ 13 % 2 ^ 9 := by
  rw [encHalf, if_pos h]
  rw [append_toNat, append_toNat, append_toNat, BitVec.extractLsb'_toNat, Nat.shiftRight_eq_div_pow]
  change (((BitVec.ofBool (signBit x)).toNat * 2 ^ 5 + 31) * 2 ^ 1 + 1) * 2 ^ 9 + _ = _
  rw [← ofBool_toNat_mul]
  ring

theorem encHalf_of_isInf (h : isInf x = true) : (encHalf x).toNat = halfSign (signBit x) + 0x7C00 := by
  rw [encHalf, isNaN_of_isInf h, if_neg Bool.false_ne_true, if_pos h]
  rw [append_toNat, append_toNat]
  change ((BitVec.ofBool (signBit x)).toNat * 2 ^ 5 + 31) * 2 ^ 10 + 0 = _
  rw [← ofBool_toNat_mul]
  ring

/-- A zero is no special case: it rounds to the zero of its sign. -/
theorem encHalf_of_isFinite (h : isFinite x = true) :
    encHalf x = rne16 (signBit x) (magnitude x) (2 ^ 125) := by
  simp only [encHalf, isNaN_of_isFinite h, isInf_of_isFinite h, Bool.false_eq_true, if_false]
  split
  · next hzero =>
    rw [(magnitude_eq_zero_iff x).mpr hzero]
    cases signBit x <;> decide +kernel
  · rfl

/-- Settles O50: the cases of `EncHalf`; the finite one is a rounding to binary16. -/
theorem encHalfNarrowsCorrectly : Obligations.EncHalfNarrowsCorrectly := by
  refine fun x => ⟨encHalf_of_isNaN, encHalf_of_isInf, fun hzero => ?_, fun hfin => ?_⟩
  · rw [encHalf_of_isFinite (isFinite_of_isZero hzero), (magnitude_eq_zero_iff x).mpr hzero]
    cases signBit x <;> decide +kernel
  · have hround := roundMagnitude_roundsTo16 (magnitude x) (den := 2 ^ 125) (by positivity)
    obtain ⟨hdiv, hmod⟩ := halfSign_div (signBit x) (n := roundMagnitude 10 0x7C00 (magnitude x) (2 ^ 125))
      (hround.1.trans_lt (by decide))
    rw [encHalf_of_isFinite hfin, rne16_toNat, hmod]
    exact ⟨hdiv, hround⟩

end Half

end Sys2Proof.Machine
end

section
/-!
PROOFS. The integer families together (42_encode R161 to R166, R187, R189): each encoder clamps its lane between two bounds,
multiplies it by a gain and stores a whole number that is at most one half from the product, the roundings on the way
counted.
-/

namespace Sys2Proof

/-- The scale `m` of a format (00_scope R16). -/
def Format.scale (f : Format) : Int :=
  if f.signed = true then Machine.signedScale f.bits else Machine.unsignedScale f.bits

/-- The lower clamp bound of an integer format (00_scope R16). -/
def Format.lower (f : Format) : Lane :=
  if f.signed = false then 0x00000000 else if f.family = .rawSigned then Machine.i2f32 (-f.scale) else 0xBF800000

/-- The upper clamp bound of an integer format (00_scope R16). -/
def Format.upper (f : Format) : Lane :=
  if f.family = .rawSigned ∨ f.family = .rawUnsigned then Machine.i2f32 f.scale else 0x3F800000

/-- The smallest field of the encode range of an integer format, as an integer. -/
def Format.minInt (f : Format) : Int := if f.signed = true then -f.scale else 0

/-- What an integer format multiplies its clamped lane by: its scale in the normalized families. -/
def Format.gain (f : Format) : Int := if f.family = .rawSigned ∨ f.family = .rawUnsigned then 1 else f.scale

end Sys2Proof

namespace Sys2Proof.Machine

/-- The field `b` is a whole number of ones from `lo` to `hi`, at most one half and the roundings' slack away from `u`
units. -/
structure Quantizes {w : Nat} (lo hi u : Int) (b : BitVec w) (n : Int) : Prop where
  field_eq : b = BitVec.ofInt w n
  min_le : lo ≤ n
  le_max : n ≤ hi
  near : 2 * |n * one - u| ≤ one + 2 ^ 142

/-- A product that is a whole number, but for the slack of a decoding, is quantized to it. -/
theorem Quantizes.eq_of_near {w : Nat} {lo hi u n k : Int} {b : BitVec w} (h : Quantizes lo hi u b n)
    (hk : |u - k * one| ≤ 2 ^ 147) : n = k := by
  have hone : (one : Int) = 2 ^ 149 := rfl
  have hnear := h.near
  exact eq_of_near_whole (u := u) (by omega)

section Families

variable {w : Nat} (hw : w = 8 ∨ w = 16) (v : Lane)

include hw

theorem encRawSigned_quantizes : ∃ n, Quantizes (-signedScale w) (signedScale w)
    (value (clamp1 v (i2f32 (-signedScale w)) (i2f32 (signedScale w))) * 1) (encRawSigned w v) n := by
  obtain ⟨hpos, -, hle⟩ := signedScale_range hw
  have habs : |signedScale w| ≤ 65535 := by rwa [abs_of_pos hpos]
  obtain ⟨hfin, hge, hle⟩ := clamp1_i2f32_between v (by rwa [abs_neg]) habs (by omega)
  obtain ⟨hnear, hrange⟩ := f2i_round1 hfin
  obtain ⟨hmin, hmax⟩ := hrange hge hle
  rw [mul_one]
  exact ⟨_, rfl, hmin, hmax, by linarith [hnear.1]⟩

theorem encRawUnsigned_quantizes : ∃ n, Quantizes 0 (unsignedScale w)
    (value (clamp1 v 0x00000000#32 (i2f32 (unsignedScale w))) * 1) (encRawUnsigned w v) n := by
  obtain ⟨hpos, -, hle⟩ := unsignedScale_range hw
  obtain ⟨hfin, hge, hle⟩ := clamp1_i2f32_between v (lo := 0) (by decide) (by rwa [abs_of_pos hpos]) hpos.le
  rw [i2f32_zero] at hfin hge hle
  obtain ⟨hnear, hrange⟩ := f2i_round1 hfin
  obtain ⟨hmin, hmax⟩ := hrange hge hle
  rw [mul_one]
  exact ⟨_, rfl, hmin, hmax, by linarith [hnear.1]⟩

theorem encSNorm_quantizes : ∃ n, Quantizes (-signedScale w) (signedScale w)
    (value (clamp1 v 0xBF800000#32 0x3F800000#32) * signedScale w) (encSNorm w v) n := by
  obtain ⟨hpos, -, hle⟩ := signedScale_range hw
  obtain ⟨hcfin, hunit⟩ := clamp1_unit v
  obtain ⟨-, -, -, herror⟩ := fmul32_scale hcfin hunit hpos hle
  obtain ⟨-, -, -, hnear, hmin, hmax⟩ := encSNorm_spec hw v
  refine ⟨_, rfl, hmin, hmax, ?_⟩
  have := abs_sub_le (f2i (round1 (fmul32 (clamp1 v 0xBF800000#32 0x3F800000#32) (i2f32 (signedScale w)))) * one)
    (value (fmul32 (clamp1 v 0xBF800000#32 0x3F800000#32) (i2f32 (signedScale w))))
    (value (clamp1 v 0xBF800000#32 0x3F800000#32) * signedScale w)
  linarith [hnear.1]

theorem encUNorm_quantizes : ∃ n, Quantizes 0 (unsignedScale w)
    (value (sat1 v) * unsignedScale w) (encUNorm w v) n := by
  obtain ⟨hpos, -, hle⟩ := unsignedScale_range hw
  obtain ⟨hsfin, hslo, hshi⟩ := kernelStaysInRange.2.2 v
  obtain ⟨-, -, -, herror⟩ := madd1_scale_half hsfin hslo hshi hpos hle
  obtain ⟨-, hnonneg, -, -, hwhole, hmax⟩ := encUNorm_spec hw v
  generalize ht : madd1 (sat1 v) (i2f32 (unsignedScale w)) 0x3F000000#32 = t at *
  have hone : (0 : Int) < one := by decide
  have hfloor := Int.ediv_mul_le (value t) hone.ne'
  have hceil := Int.lt_ediv_add_one_mul_self (value t) hone
  refine ⟨value t / one, ?_, Int.ediv_nonneg hnonneg hone.le, hmax, ?_⟩
  · rw [encUNorm, ht, narrow, hwhole]
  · have hval : (one : Int) = 2 ^ 149 := rfl
    obtain ⟨hlo, hhi⟩ := abs_le.mp herror
    have : |value t / one * one - value (sat1 v) * unsignedScale w| ≤ 2 ^ 148 + 2 ^ 141 :=
      abs_le.mpr ⟨by linarith, by linarith⟩
    linarith

end Families

/-! The bounds of the integer formats. -/

theorem format_bits (f : Format) : f.bits = 8 ∨ f.bits = 16 := by cases f <;> decide

theorem format_scale_range (f : Format) : 0 < f.scale ∧ f.scale ≤ 65535 := by cases f <;> decide

theorem format_gain_range (f : Format) : 0 < f.gain ∧ f.gain ≤ 65535 := by cases f <;> decide

/-- Every finite value is between the infinities. -/
theorem value_between_infinities {x : Lane} (hx : isFinite x = true) :
    value 0xFF800000 < value x ∧ value x < value 0x7F800000 := by
  have hneg : value 0xFF800000 = -(patternMagnitude 23 0x7F800000 : Int) := rfl
  have hpos : value 0x7F800000 = (patternMagnitude 23 0x7F800000 : Int) := rfl
  rw [isFinite_iff_magnitude_lt, ← natAbs_value] at hx
  omega

section Bounds

variable {f : Format} (hf : f.family ≠ .half) {v : Lane}

include hf

theorem lower_spec : isFinite f.lower = true ∧ value f.lower ≤ 0 ∧ value f.lower * f.gain = f.minInt * one := by
  revert hf
  cases f <;> decide +kernel

theorem upper_spec : isFinite f.upper = true ∧ 0 < value f.upper ∧ value f.upper * f.gain = f.scale * one := by
  revert hf
  cases f <;> decide +kernel

/-- The clamp of a format: a NaN and a value below the bounds go to the lower one, a value above to the upper one. -/
theorem value_clamp1_format (v : Lane) : value (clamp1 v f.lower f.upper) =
    if isNaN v then value f.lower else max (value f.lower) (min (value f.upper) (value v)) := by
  obtain ⟨hlofin, hlo, -⟩ := lower_spec hf
  obtain ⟨hhifin, hhi, -⟩ := upper_spec hf
  exact value_clamp1 hlofin hhifin (hlo.trans_lt hhi)

/-- Every integer format quantizes its clamped lane. -/
theorem encLane_quantizes (v : Lane) : ∃ n, Quantizes f.minInt f.scale
    (value (clamp1 v f.lower f.upper) * f.gain) (encLane f v) n := by
  have hw := format_bits f
  unfold encLane Format.lower Format.upper Format.minInt Format.gain Format.scale Format.signed
  cases hfam : f.family with
  | rawUnsigned => exact encRawUnsigned_quantizes hw v
  | rawSigned => exact encRawSigned_quantizes hw v
  | unsignedNorm => exact encUNorm_quantizes hw v
  | signedNorm => exact encSNorm_quantizes hw v
  | half => contradiction

/-- A lane whose product is near a whole number encodes as it. -/
theorem encLane_eq_ofInt {k : Int} (h : |value (clamp1 v f.lower f.upper) * f.gain - k * one| ≤ 2 ^ 147) :
    encLane f v = BitVec.ofInt f.bits k := by
  obtain ⟨n, hn⟩ := encLane_quantizes hf v
  rw [hn.field_eq, hn.eq_of_near h]

/-- A NaN, and every lane from the lower bound down, encodes as the smallest field of the range. -/
theorem encLane_of_le_lower (h : isNaN v = true ∨ value v ≤ value f.lower) :
    encLane f v = BitVec.ofInt f.bits f.minInt := by
  obtain ⟨-, hlo, hmin⟩ := lower_spec hf
  obtain ⟨-, hhi, -⟩ := upper_spec hf
  have hclamp : value (clamp1 v f.lower f.upper) = value f.lower := by
    rw [value_clamp1_format hf]
    split
    · rfl
    · next hnan =>
      have := h.resolve_left hnan
      omega
  refine encLane_eq_ofInt hf ?_
  rw [hclamp, hmin, sub_self, abs_zero]
  positivity

/-- Every lane from the upper bound up encodes as the largest field of the range. -/
theorem encLane_of_upper_le (hnan : isNaN v = false) (h : value f.upper ≤ value v) :
    encLane f v = BitVec.ofInt f.bits f.scale := by
  obtain ⟨-, hlo, -⟩ := lower_spec hf
  obtain ⟨-, hhi, hmax⟩ := upper_spec hf
  have hclamp : value (clamp1 v f.lower f.upper) = value f.upper := by
    rw [value_clamp1_format hf, if_neg (by simp [hnan])]
    omega
  refine encLane_eq_ofInt hf ?_
  rw [hclamp, hmax, sub_self, abs_zero]
  positivity

/-- A lane far below one half of a step encodes as 0. -/
theorem encLane_of_small (hnan : isNaN v = false) (h : magnitude v < 2 ^ 23) : encLane f v = 0 := by
  obtain ⟨-, hlo, -⟩ := lower_spec hf
  obtain ⟨-, hhi, -⟩ := upper_spec hf
  obtain ⟨hpos, hgain⟩ := format_gain_range f
  have hclamp : |value (clamp1 v f.lower f.upper)| ≤ 2 ^ 23 := by
    rw [value_clamp1_format hf, if_neg (by simp [hnan]), abs_le]
    rw [← natAbs_value] at h
    omega
  refine (encLane_eq_ofInt hf (k := 0) ?_).trans (BitVec.ofInt_natCast f.bits 0)
  rw [zero_mul, sub_zero, abs_mul, abs_of_pos hpos]
  exact (mul_le_mul hclamp hgain hpos.le (by positivity)).trans (by norm_num)

end Bounds

/-- Settles O52: lanes beyond a boundary and the boundary itself encode as the end of the range. -/
theorem outOfRangeLanesEncodeAsTheBoundary : Obligations.OutOfRangeLanesEncodeAsTheBoundary := by
  intro f v hf
  change (fgt v f.upper = true → encLane f v = encLane f f.upper) ∧
    (flt v f.lower = true → encLane f v = encLane f f.lower) ∧ encLane f f.upper = BitVec.ofInt f.bits f.scale
  have hupper := encLane_of_upper_le hf (isNaN_of_isFinite (upper_spec hf).1) le_rfl
  have hlower := encLane_of_le_lower hf (.inr le_rfl)
  refine ⟨fun h => ?_, fun h => ?_, hupper⟩
  · obtain ⟨hnan, -, hlt⟩ := fgt_iff.mp h
    rw [encLane_of_upper_le hf hnan hlt.le, hupper]
  · obtain ⟨-, -, hlt⟩ := fgt_iff.mp h
    rw [encLane_of_le_lower hf (.inr hlt.le), hlower]

/-! The table of special lanes (42_encode R189). -/

/-- A binary32 subnormal or zero. -/
theorem magnitude_of_expField_eq_zero {x : Lane} (h : expField x = 0) : isFinite x = true ∧ magnitude x < 2 ^ 23 := by
  rw [isFinite_iff, h, magnitude, if_pos h]
  exact ⟨by decide, fracField_lt x⟩

theorem format_bits_of_half {f : Format} (hf : f.family = .half) : f.bits = 16 := by
  revert hf
  cases f <;> decide

/-- The field of a format in the half family is the half. -/
theorem encLane_half {f : Format} (hf : f.family = .half) (v : Lane) : (encLane f v).toNat = (encHalf v).toNat := by
  simp only [encLane, hf]
  rw [BitVec.toNat_setWidth_of_le (format_bits_of_half hf).ge]

/-- The ends of the encode range as fields. -/
theorem ofInt_range_toNat {f : Format} (hf : f.family ≠ .half) :
    (BitVec.ofInt f.bits f.scale).toNat = (if f.signed = true then 2 ^ (f.bits - 1) - 1 else 2 ^ f.bits - 1) ∧
      (BitVec.ofInt f.bits f.minInt).toNat = if f.signed = true then 2 ^ (f.bits - 1) + 1 else 0 := by
  revert hf
  cases f <;> decide

/-- A magnitude below one half of a binary16 step rounds to zero. -/
theorem encHalf_of_small {x : Lane} (hfin : isFinite x = true) (h : magnitude x < 2 ^ 23) :
    (encHalf x).toNat = halfSign (signBit x) := by
  have hgrid : gridExponent 10 (magnitude x) (2 ^ 125) = 0 := by
    rw [gridExponent, Nat.div_eq_of_lt (h.trans (by norm_num))]
    rfl
  have hnear : nearestEven (magnitude x) (2 ^ 125) = 0 := by
    obtain ⟨-, hdown, -⟩ := nearestEven_spec (magnitude x) (2 ^ 125) (by positivity)
    omega
  rw [encHalf_of_isFinite hfin, rne16_toNat, roundMagnitude_eq, roundedPattern, hgrid, pow_zero, mul_one, hnear]
  rfl

/-- Settles O51: the infinities lie beyond the bounds, a NaN clamps to the lower one, and a subnormal is far below one half
of a step. -/
theorem specialLanesEncode : Obligations.SpecialLanesEncode := by
  intro f
  refine ⟨fun hf => ?_, fun hf => ?_⟩
  · obtain ⟨hhigh, hlow⟩ := ofInt_range_toNat hf
    obtain ⟨hlofin, -, -⟩ := lower_spec hf
    obtain ⟨hhifin, -, -⟩ := upper_spec hf
    have hsmall {v : Lane} (hv : expField v = 0) : (encLane f v).toNat = 0 := by
      obtain ⟨hfin, hlt⟩ := magnitude_of_expField_eq_zero hv
      rw [encLane_of_small hf (isNaN_of_isFinite hfin) hlt]
      rfl
    refine ⟨?_, ?_, hsmall (by decide), fun v hv => ?_, fun v => hsmall⟩
    · rw [encLane_of_upper_le hf (by decide) (value_between_infinities hhifin).2.le, hhigh]
    · rw [encLane_of_le_lower hf (.inr (value_between_infinities hlofin).1.le), hlow]
    · rw [encLane_of_le_lower hf (.inl hv), hlow]
  · simp only [encLane_half hf]
    refine ⟨by decide, by decide, by decide, fun v hv => ?_⟩
    obtain ⟨hfin, hlt⟩ := magnitude_of_expField_eq_zero hv
    exact encHalf_of_small hfin hlt

end Sys2Proof.Machine
end

section
/-!
PROOFS. Decoding and encoding again (42_encode R191): the lane function of an integer format decodes to near the field over
the gain, so encoding finds the field; `DecHalf` of a finite half is exact.
-/

namespace Sys2Proof.Machine

/-- The integer a field of a format stands for. -/
def componentInt (f : Format) (c : BitVec f.bits) : Int := if f.signed = true then c.toInt else c.toNat

/-- The integer of a field is the field. -/
theorem ofInt_componentInt (f : Format) (c : BitVec f.bits) : BitVec.ofInt f.bits (componentInt f c) = c := by
  unfold componentInt
  split
  · exact BitVec.ofInt_toInt
  · rw [BitVec.ofInt_natCast, BitVec.ofNat_toNat, BitVec.setWidth_eq]

/-- `WidenS` reads two's complement. -/
theorem widenS_eq (w : Nat) (hw : 0 < w) (c : BitVec w) : widenS w c = i2f32 c.toInt := by
  have hpow : 2 ^ (w - 1) * 2 = 2 ^ w := pow_sub_one_mul hw.ne' 2
  rw [widenS, BitVec.toInt_eq_toNat_cond, apply_ite i2f32]
  push_cast
  exact if_congr (by omega) rfl rfl

/-- The quotient of an integer by a scale it does not pass: how far one rounding can take it. -/
theorem fdiv32_scale {n m : Int} (hn : |n| ≤ m) (hpos : 0 < m) (hm : m ≤ 65535) :
    isFinite (fdiv32 (i2f32 n) (i2f32 m)) = true ∧
      |value (fdiv32 (i2f32 n) (i2f32 m)) * m - n * one| ≤ 2 ^ 142 := by
  have hone : (0 : Int) < one := by decide
  obtain ⟨hnfin, hnval⟩ := i2f32_exact (hn.trans hm)
  obtain ⟨hmfin, hmval⟩ := i2f32_exact (n := m) (by rw [abs_of_pos hpos]; exact hm)
  have hscale : 0 < m * (one : Int) := by positivity
  have hmag : (magnitude (i2f32 m) : Int) = m * one := by
    rw [← natAbs_value, hmval, Int.natAbs_of_nonneg hscale.le]
  have hbound : magnitude (i2f32 n) * one < 2 ^ 200 * magnitude (i2f32 m) := by
    have hle : magnitude (i2f32 n) ≤ magnitude (i2f32 m) := by
      rw [← Int.ofNat_le, hmag, ← natAbs_value, hnval, ← Int.abs_eq_natAbs, abs_mul, abs_of_pos hone]
      exact mul_le_mul_of_nonneg_right hn hone.le
    have hmpos : 0 < magnitude (i2f32 m) := by omega
    rw [Nat.mul_comm]
    exact Nat.mul_lt_mul_of_lt_of_le (by decide) hle hmpos
  have hround := fdiv32_roundsValue hnfin hmfin (hmval ▸ hscale) hbound
  have hlt : |n * one * one| < 2 ^ (126 + 24) * (m * one) := by
    rw [mul_assoc, abs_mul, abs_of_pos (mul_pos hone hone)]
    calc |n| * (one * one) ≤ m * (one * one) := by gcongr
      _ = one * (m * one) := by ring
      _ < 2 ^ (126 + 24) * (m * one) := mul_lt_mul_of_pos_right (by decide) hscale
  have herror := hround.error 126 (by rwa [hmag, hnval])
  have hfactor : value (fdiv32 (i2f32 n) (i2f32 m)) * (m * one) - n * one * one =
      (value (fdiv32 (i2f32 n) (i2f32 m)) * m - n * one) * one := by ring
  rw [hmag, hnval, hfactor, abs_mul, abs_of_pos hone, ← mul_assoc, ← mul_assoc] at herror
  have := le_of_mul_le_mul_right herror hone
  exact ⟨hround.finite, by omega⟩

section Integer

variable {f : Format} {c : BitVec f.bits}

theorem componentInt_of_signed (hs : f.signed = true) : componentInt f c = c.toInt := if_pos hs

theorem componentInt_of_unsigned (hs : f.signed = false) : componentInt f c = c.toNat := by
  rw [componentInt, hs, if_neg Bool.false_ne_true]

/-- The scale and the number of fields. -/
theorem format_scale_eq (f : Format) : f.scale = if f.signed = true then 2 ^ (f.bits - 1) - 1 else 2 ^ f.bits - 1 := rfl

theorem componentInt_le_scale : componentInt f c ≤ f.scale := by
  rw [format_scale_eq]
  cases hs : f.signed
  · have hlt : (c.toNat : Int) < 2 ^ f.bits := by exact_mod_cast c.isLt
    rw [componentInt_of_unsigned hs, if_neg Bool.false_ne_true]
    omega
  · have hlt := BitVec.toInt_lt (x := c)
    rw [componentInt_of_signed hs, if_pos rfl]
    omega

/-- Every field but the most negative one of a signed format is in the encode range. -/
theorem minInt_le_componentInt_iff :
    f.minInt ≤ componentInt f c ↔ ¬(f.signed = true ∧ c.toNat = 2 ^ (f.bits - 1)) := by
  rw [Format.minInt, format_scale_eq]
  cases hs : f.signed
  · simp [componentInt_of_unsigned hs]
  · have hpow := Nat.two_pow_pred_mul_two (format_bits_pos f)
    have hlt := c.isLt
    have hcast : (2 : Int) ^ (f.bits - 1) = (2 ^ (f.bits - 1) : Nat) := by push_cast; rfl
    rw [componentInt_of_signed hs, if_pos rfl, if_pos rfl, BitVec.toInt_eq_toNat_cond, hcast]
    simp only [true_and]
    split <;> omega

/-- An integer of the encode range is stored whole. -/
theorem componentInt_ofInt {n : Int} (hmin : f.minInt ≤ n) (hmax : n ≤ f.scale) :
    componentInt f (BitVec.ofInt f.bits n) = n := by
  rw [Format.minInt, format_scale_eq] at hmin
  rw [format_scale_eq] at hmax
  cases hs : f.signed <;> simp only [hs, if_true, if_false, Bool.false_eq_true] at hmin hmax
  · rw [componentInt_of_unsigned hs]
    exact ofInt_toNat hmin (by omega)
  · rw [componentInt_of_signed hs]
    exact BitVec.toInt_ofInt_eq_self (format_bits_pos f) (by omega) (by omega)

/-- The raw families decode to the integer of the field. -/
theorem decLane_of_raw (h : f.family = .rawSigned ∨ f.family = .rawUnsigned) :
    decLane f c = i2f32 (componentInt f c) := by
  rcases h with h | h <;> simp only [decLane, h]
  · rw [decRawSigned, widenS_eq _ (format_bits_pos f), componentInt_of_signed (by simp [Format.signed, h])]
  · rw [decRawUnsigned, widenU, componentInt_of_unsigned (by simp [Format.signed, h])]

/-- The normalized families decode to the integer of the field over the scale. -/
theorem decLane_of_norm (h : f.family = .signedNorm ∨ f.family = .unsignedNorm)
    (hc : ¬(f.signed = true ∧ c.toNat = 2 ^ (f.bits - 1))) :
    decLane f c = fdiv32 (i2f32 (componentInt f c)) (i2f32 f.scale) := by
  rcases h with h | h <;> simp only [decLane, h]
  · have hs : f.signed = true := by simp [Format.signed, h]
    rw [decSNorm, if_neg fun hmin => hc ⟨hs, hmin⟩, widenS_eq _ (format_bits_pos f), componentInt_of_signed hs,
      Format.scale, if_pos hs]
  · have hs : f.signed = false := by simp [Format.signed, h]
    rw [decUNorm, widenU, componentInt_of_unsigned hs, Format.scale, hs, if_neg Bool.false_ne_true]

theorem raw_or_norm (hf : f.family ≠ .half) : (f.family = .rawSigned ∨ f.family = .rawUnsigned) ∨
    (f.family = .signedNorm ∨ f.family = .unsignedNorm) := by
  cases h : f.family <;> simp_all

/-- A field of the encode range decodes to a lane near it, in steps of the gain. -/
theorem decLane_near (hf : f.family ≠ .half) (hc : f.minInt ≤ componentInt f c) :
    isFinite (decLane f c) = true ∧ |value (decLane f c) * f.gain - componentInt f c * one| ≤ 2 ^ 142 := by
  obtain ⟨hpos, hscale⟩ := format_scale_range f
  have hmax := componentInt_le_scale (c := c)
  have hmin : -f.scale ≤ componentInt f c := by
    rw [Format.minInt] at hc
    split at hc <;> omega
  have habs : |componentInt f c| ≤ f.scale := abs_le.mpr ⟨hmin, hmax⟩
  rcases raw_or_norm hf with h | h
  · obtain ⟨hfin, hval⟩ := i2f32_exact (habs.trans hscale)
    rw [decLane_of_raw h, Format.gain, if_pos h, hval, mul_one, sub_self, abs_zero]
    exact ⟨hfin, by positivity⟩
  · have hgain : f.gain = f.scale := if_neg (by rcases h with h | h <;> simp [h])
    rw [decLane_of_norm h (minInt_le_componentInt_iff.mp hc), hgain]
    exact fdiv32_scale habs hpos hscale

theorem format_scale_lt_of_signed (hs : f.signed = true) : f.scale < 65535 := by
  revert hs
  cases f <;> decide

/-- The most negative field of a signed format decodes to the lower bound or below it. -/
theorem decLane_most_negative (hs : f.signed = true) (hc : c.toNat = 2 ^ (f.bits - 1)) :
    value (decLane f c) ≤ value f.lower := by
  have hpow := Nat.two_pow_pred_mul_two (format_bits_pos f)
  have hcast : (2 : Int) ^ (f.bits - 1) = (2 ^ (f.bits - 1) : Nat) := by push_cast; rfl
  have hint : componentInt f c = -(f.scale + 1) := by
    rw [componentInt_of_signed hs, format_scale_eq, if_pos hs, BitVec.toInt_eq_toNat_cond, if_neg (by omega), hcast]
    omega
  cases hfam : f.family with
  | rawSigned =>
    obtain ⟨-, -, hlower⟩ := lower_spec (f := f) (by simp [hfam])
    have hgain : f.gain = 1 := if_pos (.inl hfam)
    have habs : |componentInt f c| ≤ 65535 := by
      rw [hint, abs_neg, abs_of_nonneg (by have := (format_scale_range f).1; omega)]
      exact format_scale_lt_of_signed hs
    obtain ⟨-, hval⟩ := i2f32_exact habs
    rw [hgain, mul_one, Format.minInt, if_pos hs] at hlower
    rw [decLane_of_raw (.inl hfam), hval, hlower]
    exact mul_le_mul_of_nonneg_right (by omega) (by decide)
  | signedNorm =>
    have hlower : f.lower = 0xBF800000 := by simp [Format.lower, hs, hfam]
    have hdec : decLane f c = 0xBF800000 := by
      simp only [decLane, hfam]
      exact if_pos hc
    rw [hdec, hlower]
  | rawUnsigned | unsignedNorm | half => simp [Format.signed, hfam] at hs

/-- The clamp of a lane is no farther from a product in the encode range than the lane is. -/
theorem clamp1_near (hf : f.family ≠ .half) {v : Lane} {k : Int} (hnan : isNaN v = false) (hmin : f.minInt ≤ k)
    (hmax : k ≤ f.scale) :
    |value (clamp1 v f.lower f.upper) * f.gain - k * one| ≤ |value v * f.gain - k * one| := by
  have hone : (0 : Int) < one := by decide
  obtain ⟨hgain, -⟩ := format_gain_range f
  obtain ⟨-, hlo, hlower⟩ := lower_spec hf
  obtain ⟨-, hhi, hupper⟩ := upper_spec hf
  have hmin := hlower.trans_le (mul_le_mul_of_nonneg_right hmin hone.le)
  have hmax := (mul_le_mul_of_nonneg_right hmax hone.le).trans_eq hupper.symm
  rw [value_clamp1_format hf, if_neg (by simp [hnan])]
  rcases le_total (value v) (value f.lower) with hbelow | habove
  · have := mul_le_mul_of_nonneg_right hbelow hgain.le
    rw [max_eq_left (by omega), abs_of_nonpos (by linarith), abs_of_nonpos (by linarith)]
    linarith
  rcases le_total (value v) (value f.upper) with hbelow | habove'
  · rw [min_eq_right hbelow, max_eq_right habove]
  · have := mul_le_mul_of_nonneg_right habove' hgain.le
    rw [min_eq_left habove', max_eq_right (by omega), abs_of_nonneg (by linarith), abs_of_nonneg (by linarith)]
    linarith

/-- A field of the encode range comes back from its lane. -/
theorem encLane_decLane (hf : f.family ≠ .half) (hc : f.minInt ≤ componentInt f c) :
    encLane f (decLane f c) = c := by
  obtain ⟨hfin, hnear⟩ := decLane_near hf hc
  have hclamp := clamp1_near hf (isNaN_of_isFinite hfin) hc componentInt_le_scale
  rw [encLane_eq_ofInt hf ((hclamp.trans hnear).trans (by norm_num)), ofInt_componentInt]

end Integer

/-! The normalized families (42_encode R191). -/

/-- The valid range of a normalized format, and its scale. -/
theorem norm_bounds {f : Format} (h : f.family = .signedNorm ∨ f.family = .unsignedNorm) :
    value f.lower = (if f.signed = true then -(one : Int) else 0) ∧ value f.upper = one ∧
      (2 : Int) ^ (f.bits - 1) - 1 ≤ f.gain := by
  revert h
  cases f <;> decide +kernel

/-- Settles O59: encoding is off by one half of a step and the roundings, decoding by its rounding, together less than a
step. -/
theorem normalizedRoundTripWithinOneStep : Obligations.NormalizedRoundTripWithinOneStep := by
  intro f v hnorm hfin hle hge
  obtain ⟨hlower, hupper, hgain⟩ := norm_bounds hnorm
  have hf : f.family ≠ .half := by rcases hnorm with h | h <;> simp [h]
  obtain ⟨n, hfield, hmin, hmax, hnear⟩ := encLane_quantizes hf v
  have hclamp : value (clamp1 v f.lower f.upper) = value v := by
    have hge : value f.lower ≤ value v := by cases hs : f.signed <;> simpa [hlower, hs] using hge
    rw [value_clamp1_format hf, if_neg (by simp [isNaN_of_isFinite hfin])]
    omega
  have hint := componentInt_ofInt hmin hmax
  obtain ⟨-, hdec⟩ := decLane_near hf (hmin.trans_eq hint.symm)
  rw [hint] at hdec
  rw [hclamp] at hnear
  rw [hfield]
  generalize value (decLane f (BitVec.ofInt f.bits n)) = d at *
  have hone : (one : Int) = 2 ^ 149 := rfl
  calc |d - value v| * (2 ^ (f.bits - 1) - 1)
      ≤ |d - value v| * f.gain := mul_le_mul_of_nonneg_left hgain (abs_nonneg _)
    _ = |d * f.gain - value v * f.gain| := by
      rw [← sub_mul, abs_mul, abs_of_pos (format_gain_range f).1]
    _ ≤ |d * f.gain - n * one| + |n * one - value v * f.gain| := abs_sub_le _ _ _
    _ ≤ one := by omega

end Sys2Proof.Machine
end

section
/-!
PROOFS. Halves decoded and encoded again (42_encode R167, R191; 43_decode R207): decoding spells the fields of a half with
wider ones, so a finite half keeps its value, which encoding rounds to the half itself.
-/

namespace Sys2Proof.Machine

section Half

variable (h : BitVec 16)

/-- The exponent field of a half (00_scope R12). -/
def halfExp : Nat := h.toNat / 2 ^ 10 % 2 ^ 5

/-- The fraction field of a half (00_scope R12). -/
def halfFrac : Nat := h.toNat % 2 ^ 10

theorem halfExp_lt : halfExp h < 32 := Nat.mod_lt _ (by norm_num)

theorem halfFrac_lt : halfFrac h < 2 ^ 10 := Nat.mod_lt _ (by norm_num)

/-- A half is its sign and its fields. -/
theorem half_toNat : h.toNat = halfSign (h.getLsbD 15) + (halfExp h * 2 ^ 10 + halfFrac h) := by
  have hlt : h.toNat < 2 ^ 16 := h.isLt
  have hsign : h.getLsbD 15 = decide (2 ^ 15 ≤ h.toNat) := by
    rw [BitVec.getLsbD, Nat.testBit_eq_decide_div_mod_eq, decide_eq_decide]
    omega
  rw [hsign, halfSign, halfExp, halfFrac]
  split <;> simp_all <;> omega

theorem halfExp_eq : (h.extractLsb' 10 5).toNat = halfExp h := by
  rw [BitVec.extractLsb'_toNat, Nat.shiftRight_eq_div_pow, halfExp]

theorem halfFrac_eq : (h.extractLsb' 0 10).toNat = halfFrac h := by
  rw [BitVec.extractLsb'_toNat, Nat.shiftRight_zero, halfFrac]

/-- The fields of a lane spelled as a sign, an exponent and a fraction of 10 bits. -/
theorem fields_of_append (neg : Bool) (e : BitVec 8) (f : BitVec 10) :
    signBit (BitVec.ofBool neg ++ e ++ f ++ 0#13) = neg ∧
      expField (BitVec.ofBool neg ++ e ++ f ++ 0#13) = e.toNat ∧
      fracField (BitVec.ofBool neg ++ e ++ f ++ 0#13) = f.toNat * 2 ^ 13 := by
  have hval : (BitVec.ofBool neg ++ e ++ f ++ 0#13).toNat =
      (BitVec.ofBool neg).toNat * 2 ^ 31 + e.toNat * 2 ^ 23 + f.toNat * 2 ^ 13 := by
    rw [append_toNat, append_toNat, append_toNat, BitVec.toNat_ofNat]
    ring
  have he := e.isLt
  have hf := f.isLt
  rw [signBit_eq, expField_eq, fracField_eq, hval, BitVec.toNat_ofBool]
  cases neg <;>
    simp only [Bool.toNat_false, Bool.toNat_true, decide_eq_true_eq, decide_eq_false_iff_not] <;> omega

variable {h}

/-- A half of exponent 31 keeps its sign and its fraction. -/
theorem decHalf_of_exp_max (he : halfExp h = 31) : signBit (decHalf h) = h.getLsbD 15 ∧
    expField (decHalf h) = 255 ∧ fracField (decHalf h) = halfFrac h * 2 ^ 13 := by
  have heq : decHalf h = BitVec.ofBool (h.getLsbD 15) ++ 0xFF#8 ++ h.extractLsb' 0 10 ++ 0#13 := by
    rw [decHalf, halfExp_eq, if_pos he]
  have hfields := fields_of_append (h.getLsbD 15) 0xFF#8 (h.extractLsb' 0 10)
  rwa [heq, ← halfFrac_eq]

/-- Any other half is finite and keeps its sign and its value. -/
theorem decHalf_of_finite (he : halfExp h ≠ 31) : isFinite (decHalf h) = true ∧
    signBit (decHalf h) = h.getLsbD 15 ∧
    magnitude (decHalf h) = patternMagnitude 10 (halfExp h * 2 ^ 10 + halfFrac h) * 2 ^ 125 := by
  have hfrac := halfFrac_lt h
  have hexp := halfExp_lt h
  have hdec : decHalf h = if halfExp h = 0 then
      if halfFrac h = 0 then BitVec.ofBool (h.getLsbD 15) ++ 0#31
      else rne32 (h.getLsbD 15) (halfFrac h * 2 ^ 125) 1
    else BitVec.ofBool (h.getLsbD 15) ++ BitVec.ofNat 8 (halfExp h + 112) ++ h.extractLsb' 0 10 ++ 0#13 := by
    have hzero : h.extractLsb' 0 10 = 0 ↔ halfFrac h = 0 := by rw [← BitVec.toNat_inj, halfFrac_eq]; rfl
    rw [decHalf, halfExp_eq, if_neg he, halfFrac_eq]
    simp only [hzero]
  rw [hdec]
  split
  · next hzero =>
    rw [hzero, Nat.zero_mul, Nat.zero_add, patternMagnitude_subnormal hfrac]
    split
    · next hfrac0 =>
      rw [hfrac0]
      cases h.getLsbD 15 <;> decide
    · obtain ⟨hfin, hmag⟩ := rne32_exact (h.getLsbD 15)
        (gridStep_dvd_of_lt (k := 125) (Nat.dvd_mul_left _ (halfFrac h)) (by omega)) (by omega)
      exact ⟨hfin, signBit_rne32 _ _ _, hmag⟩
  · next hne =>
    obtain ⟨hsign, hexpField, hfracField⟩ :=
      fields_of_append (h.getLsbD 15) (BitVec.ofNat 8 (halfExp h + 112)) (h.extractLsb' 0 10)
    rw [BitVec.toNat_ofNat, Nat.mod_eq_of_lt (by omega)] at hexpField
    rw [halfFrac_eq] at hfracField
    refine ⟨(isFinite_iff _).mpr (by omega), hsign, ?_⟩
    obtain ⟨e, he'⟩ := Nat.exists_eq_succ_of_ne_zero hne
    rw [magnitude, hexpField, hfracField, he', patternMagnitude_normal e hfrac, if_neg (by omega)]
    rw [show e.succ + 112 - 1 = e + 112 by omega, Nat.pow_add]
    ring

/-- Encoding a decoded half gives the half, a NaN with its quiet bit set (42_encode R167). -/
theorem encHalf_decHalf_of_finite (he : halfExp h ≠ 31) : (encHalf (decHalf h)).toNat = h.toNat := by
  obtain ⟨hfin, hsign, hmag⟩ := decHalf_of_finite he
  have hexp := halfExp_lt h
  have hfrac := halfFrac_lt h
  rw [encHalf_of_isFinite hfin, rne16_toNat, hsign, hmag,
    roundMagnitude_patternMagnitude (by norm_num) (by positivity) (by omega), ← half_toNat]

theorem encHalf_decHalf_of_infinity (he : halfExp h = 31) (hf : halfFrac h = 0) :
    (encHalf (decHalf h)).toNat = h.toNat := by
  obtain ⟨hsign, hexp, hfrac⟩ := decHalf_of_exp_max he
  rw [encHalf_of_isInf ((isInf_iff _).mpr ⟨hexp, by rw [hfrac, hf, Nat.zero_mul]⟩), hsign, half_toNat h, he, hf]
  rfl

/-- A NaN half comes back with its quiet bit, bit 9, set. -/
theorem encHalf_decHalf_of_nan (he : halfExp h = 31) (hf : halfFrac h ≠ 0) :
    (encHalf (decHalf h)).toNat = if h.toNat / 2 ^ 9 % 2 = 0 then h.toNat + 0x0200 else h.toNat := by
  obtain ⟨hsign, hexp, hfrac⟩ := decHalf_of_exp_max he
  have hnan : isNaN (decHalf h) = true := by
    rw [isNaN, hexp, hfrac]
    simpa using hf
  have hquiet : (decHalf h).toNat / 2 ^ 13 % 2 ^ 9 = halfFrac h % 2 ^ 9 := by
    rw [fracField_eq] at hfrac
    omega
  have hbit : h.toNat / 2 ^ 9 % 2 = halfFrac h / 2 ^ 9 := by
    rw [halfFrac]
    omega
  have hval := half_toNat h
  have hlt := halfFrac_lt h
  rw [encHalf_of_isNaN hnan, hsign, hquiet, hbit]
  split <;> omega

variable (h)

/-- Only a signalling NaN does not come back. -/
theorem encHalf_decHalf :
    (signallingHalf h.toNat → (encHalf (decHalf h)).toNat = h.toNat + 0x0200) ∧
      (¬signallingHalf h.toNat → (encHalf (decHalf h)).toNat = h.toNat) := by
  have hiff : signallingHalf h.toNat ↔ halfExp h = 31 ∧ halfFrac h ≠ 0 ∧ h.toNat / 2 ^ 9 % 2 = 0 := Iff.rfl
  rw [hiff]
  refine ⟨fun ⟨he, hf, hbit⟩ => by rw [encHalf_decHalf_of_nan he hf, if_pos hbit], fun hquiet => ?_⟩
  by_cases he : halfExp h = 31
  · by_cases hf : halfFrac h = 0
    · exact encHalf_decHalf_of_infinity he hf
    · rw [encHalf_decHalf_of_nan he hf, if_neg fun hbit => hquiet ⟨he, hf, hbit⟩]
  · exact encHalf_decHalf_of_finite he

end Half

/-- A field of a half format is a half. -/
theorem decLane_half {f : Format} (hf : f.family = .half) (c : BitVec f.bits) :
    ∃ h : BitVec 16, h.toNat = c.toNat ∧ decLane f c = decHalf h :=
  ⟨c.setWidth 16, BitVec.toNat_setWidth_of_le (format_bits_of_half hf).le, by simp only [decLane, hf]⟩

/-- Settles O57: a field of the encode range is the whole number its lane is near, the most negative field decodes to the
lower bound or below it, and a half keeps its value. -/
theorem decodeThenEncodeReturnsTheField : Obligations.DecodeThenEncodeReturnsTheField := by
  intro f c
  by_cases hf : f.family = .half
  · have hs : f.signed ≠ true := by simp [Format.signed, hf]
    obtain ⟨h, hval, hdec⟩ := decLane_half hf c
    obtain ⟨hsignalling, hquiet⟩ := encHalf_decHalf h
    rw [hval] at hsignalling hquiet
    rw [hdec]
    refine ⟨fun h => absurd h hs, fun _ hc => ?_, fun _ hc => BitVec.eq_of_toNat_eq ?_⟩
    · rw [encLane_half hf, hsignalling hc]
    · rw [encLane_half hf, hquiet fun h => hc ⟨hf, h⟩]
  · refine ⟨fun hs hc => ?_, fun h => absurd h hf, fun hc _ => ?_⟩
    · rw [encLane_of_le_lower hf (.inr (decLane_most_negative hs hc)), (ofInt_range_toNat hf).2, if_pos hs]
    · exact encLane_decLane hf (minInt_le_componentInt_iff.mpr hc)

end Sys2Proof.Machine
end

section
/-!
PROOFS. The decode lane functions of the integer families (43_decode R203 to R206): an integer of at most 16 bits as a lane,
and the quotient of two of them, which is one rounding of the exact quotient and never -0.0.
-/

namespace Sys2Proof.Machine

/-- The nearest whole number to a quotient does not depend on how the quotient is written. -/
theorem nearestEven_mul_mul_right (num den : Nat) {k : Nat} (hk : 0 < k) :
    nearestEven (num * k) (den * k) = nearestEven num den := by
  have hgt : den * k < 2 * (num % den * k) ↔ den < 2 * (num % den) := by
    rw [← Nat.mul_assoc, Nat.mul_lt_mul_right hk]
  have heq : 2 * (num % den * k) = den * k ↔ 2 * (num % den) = den := by
    rw [← Nat.mul_assoc, Nat.mul_left_inj hk.ne']
  simp only [nearestEven, Nat.mul_div_mul_right _ _ hk, Nat.mul_mod_mul_right, hgt, heq]

/-- Rounding a quotient does not depend on how the quotient is written. -/
theorem rne32_mul_mul_right (neg : Bool) (num den : Nat) {k : Nat} (hk : 0 < k) :
    rne32 neg (num * k) (den * k) = rne32 neg num den := by
  rw [rne32, rne32, roundMagnitude, roundMagnitude, Nat.mul_div_mul_right _ _ hk, Nat.mul_right_comm den k,
    nearestEven_mul_mul_right _ _ hk]

/-- A quotient of 1 rounds to 1.0 or -1.0. -/
theorem rne32_one (neg : Bool) {den : Nat} (hd : 0 < den) :
    rne32 neg (one * den) den = if neg then 0xBF800000 else 0x3F800000 := by
  have hone : patternMagnitude 23 0x3F800000 = one := by decide +kernel
  rw [rne32, ← hone, roundMagnitude_patternMagnitude (by decide) hd (by decide)]
  cases neg <;> decide

/-- A rounding is not -0.0 when its sign is positive or its quotient is at least one unit. -/
theorem rne32_ne_negZero {neg : Bool} {num den : Nat} (hd : 0 < den) (hlt : num < 2 ^ 200 * den)
    (hneg : neg = true → den ≤ num) : rne32 neg num den ≠ 0x80000000 := by
  intro h
  obtain ⟨hzero, hsign⟩ := (isZero_and_signBit_iff _).mpr h
  rw [signBit_rne32] at hsign
  subst hsign
  have hunit : value 0x80000001 = -1 := by decide
  have hle := (rne32_roundsValue true hd hlt).le (b := 0x80000001)
    (by have := hneg rfl; rw [hunit, signedNat, if_pos rfl]; omega)
  rw [(value_eq_zero_iff _).mpr hzero, hunit] at hle
  omega

/-- An integer is its sign and its absolute value. -/
theorem signedNat_natAbs (n : Int) : signedNat (decide (n < 0)) n.natAbs = n := by
  by_cases hneg : n < 0 <;> simp only [signedNat, hneg, decide_true, decide_false, if_true, if_false,
    Bool.false_eq_true] <;> omega

section Integers

variable {n : Int} {m : Nat}

/-- An integer of at most 16 bits does not convert to -0.0. -/
theorem i2f32_ne_negZero (hn : |n| ≤ 65535) : i2f32 n ≠ 0x80000000 := by
  rw [Int.abs_eq_natAbs] at hn
  unfold i2f32 one
  refine rne32_ne_negZero Nat.one_pos (by omega) fun hneg => ?_
  have := of_decide_eq_true hneg
  omega

/-- The sign and the magnitude of an integer of at most 16 bits as a lane. -/
theorem i2f32_sign_magnitude (hn : |n| ≤ 65535) :
    signBit (i2f32 n) = decide (n < 0) ∧ magnitude (i2f32 n) = n.natAbs * one := by
  refine ⟨signBit_rne32 _ _ _, ?_⟩
  rw [← natAbs_value, (i2f32_exact hn).2, Int.natAbs_mul, Int.natAbs_natCast]

/-- The quotient of two integers of at most 16 bits is their exact quotient rounded once. -/
theorem fdiv32_i2f32 (hn : |n| ≤ 65535) (hpos : 0 < m) (hm : m ≤ 65535) :
    fdiv32 (i2f32 n) (i2f32 m) = rne32 (decide (n < 0)) (n.natAbs * one) m := by
  have habs : |(m : Int)| ≤ 65535 := by rw [Nat.abs_cast]; exact_mod_cast hm
  obtain ⟨hnsign, hnmag⟩ := i2f32_sign_magnitude hn
  obtain ⟨hmsign, hmmag⟩ := i2f32_sign_magnitude habs
  rw [Int.natAbs_natCast] at hmmag
  have hone : 0 < one := by decide
  have hzero : isZero (i2f32 m) = false := by
    rw [← Bool.not_eq_true, ← magnitude_eq_zero_iff, hmmag]
    positivity
  have hsign : decide ((m : Int) < 0) = false := decide_eq_false (by omega)
  rw [fdiv32_of_isFinite (i2f32_exact hn).1 (i2f32_exact habs).1 hzero, hnsign, hmsign, hsign, Bool.xor_false, hnmag,
    hmmag, rne32_mul_mul_right _ _ _ hone]

/-- The quotient of two integers of at most 16 bits has the sign of the dividend and the magnitude of the exact quotient
rounded to binary32. -/
theorem fdiv32_i2f32_roundsTo (hn : |n| ≤ 65535) (hpos : 0 < m) (hm : m ≤ 65535) :
    signBit (fdiv32 (i2f32 n) (i2f32 m)) = decide (n < 0) ∧
      RoundsTo32 (n.natAbs * 2 ^ 149) m ((fdiv32 (i2f32 n) (i2f32 m)).toNat % 2 ^ 31) := by
  rw [fdiv32_i2f32 hn hpos hm]
  exact ⟨signBit_rne32 _ _ _, rne32_roundsTo _ _ hpos⟩

/-- A fraction of magnitude at most 1 rounds to a lane from -1.0 to 1.0 that is not -0.0, and is not negative for a
nonnegative fraction. -/
theorem fdiv32_i2f32_range (hn : |n| ≤ m) (hpos : 0 < m) (hm : m ≤ 65535) :
    isFinite (fdiv32 (i2f32 n) (i2f32 m)) = true ∧ fdiv32 (i2f32 n) (i2f32 m) ≠ 0x80000000 ∧
      (0 ≤ n → 0 ≤ value (fdiv32 (i2f32 n) (i2f32 m))) ∧
      -(one : Int) ≤ value (fdiv32 (i2f32 n) (i2f32 m)) ∧ value (fdiv32 (i2f32 n) (i2f32 m)) ≤ one := by
  have hone : (one : Int) = 2 ^ 149 := rfl
  have hle : n.natAbs ≤ m := by rw [Int.abs_eq_natAbs] at hn; omega
  have hlt : n.natAbs * one < 2 ^ 200 * m := by unfold one; omega
  have hnum : signedNat (decide (n < 0)) (n.natAbs * one) = n * one := by
    rw [signedNat_mul, signedNat_natAbs]
  have hround := rne32_roundsValue (decide (n < 0)) hpos hlt
  rw [hnum] at hround
  obtain ⟨hlo, hhi⟩ := abs_le.mp hn
  have hplus : value 0x3F800000 = one := by decide +kernel
  have hminus : value 0xBF800000 = -one := by decide +kernel
  have hzero : value 0x00000000 = 0 := by decide
  rw [fdiv32_i2f32 (hn.trans (by exact_mod_cast hm)) hpos hm]
  refine ⟨hround.finite, rne32_ne_negZero hpos hlt fun hneg => ?_, fun hnonneg => ?_, ?_, ?_⟩
  · have := of_decide_eq_true hneg
    unfold one
    omega
  · rw [← hzero]
    exact hround.ge (by rw [hzero, hone]; omega)
  · rw [← hminus]
    exact hround.ge (by rw [hminus, hone]; omega)
  · rw [← hplus]
    exact hround.le (by rw [hplus, hone]; omega)

/-- The quotient of an integer by itself, or by its negation, is exactly 1.0 or -1.0. -/
theorem fdiv32_i2f32_unit (hn : n.natAbs = m) (hpos : 0 < m) (hm : m ≤ 65535) :
    fdiv32 (i2f32 n) (i2f32 m) = if n < 0 then 0xBF800000 else 0x3F800000 := by
  have habs : |n| ≤ 65535 := by rw [Int.abs_eq_natAbs]; omega
  rw [fdiv32_i2f32 habs hpos hm, hn, Nat.mul_comm, rne32_one _ hpos]
  simp only [decide_eq_true_eq]

end Integers

section Fields

variable {w : Nat} (c : BitVec w)

/-- The scale of the signed families as a natural. -/
theorem signedScale_eq (w : Nat) : signedScale w = ((2 ^ (w - 1) - 1 : Nat) : Int) := by
  rw [signedScale]
  push_cast [Nat.one_le_two_pow]
  rfl

/-- The scale of the unsigned families as a natural. -/
theorem unsignedScale_eq (w : Nat) : unsignedScale w = ((2 ^ w - 1 : Nat) : Int) := by
  rw [unsignedScale]
  push_cast [Nat.one_le_two_pow]
  rfl

/-- The weight of the sign bit as a natural, which is how `omega` reads it. -/
theorem signWeight_eq (w : Nat) : (2 : Int) ^ (w - 1) = (2 ^ (w - 1) : Nat) := by
  push_cast
  rfl

/-- The most negative field is the one with only its sign bit set. -/
theorem toInt_eq_min_iff (hw : 0 < w) : c.toInt = -2 ^ (w - 1) ↔ c.toNat = 2 ^ (w - 1) := by
  have hpow := Nat.two_pow_pred_mul_two hw
  have hlt := c.isLt
  rw [BitVec.toInt_eq_toNat_cond, signWeight_eq]
  split <;> omega

theorem decSNorm_of_min (hw : 0 < w) (hc : c.toInt = -2 ^ (w - 1)) : decSNorm w c = 0xBF800000 :=
  if_pos ((toInt_eq_min_iff c hw).mp hc)

/-- Any other field of a signed normalized format is divided by the scale. -/
theorem decSNorm_of_ne_min (hw : 0 < w) (hc : c.toInt ≠ -2 ^ (w - 1)) :
    decSNorm w c = fdiv32 (i2f32 c.toInt) (i2f32 (2 ^ (w - 1) - 1 : Nat)) := by
  rw [decSNorm, if_neg (mt (toInt_eq_min_iff c hw).mpr hc), widenS_eq w hw, signedScale_eq]

theorem decUNorm_eq : decUNorm w c = fdiv32 (i2f32 c.toNat) (i2f32 (2 ^ w - 1 : Nat)) := by
  rw [decUNorm, widenU, unsignedScale_eq]

/-- No field but the most negative one passes the scale of the signed families. -/
theorem abs_toInt_le_of_ne_min (hc : c.toInt ≠ -2 ^ (w - 1)) : |c.toInt| ≤ (2 ^ (w - 1) - 1 : Nat) := by
  have hlo := BitVec.le_toInt c
  have hhi := BitVec.toInt_lt (x := c)
  push_cast [Nat.one_le_two_pow]
  exact abs_le.mpr ⟨by omega, by omega⟩

/-- No field passes the scale of the unsigned families. -/
theorem abs_toNat_le : |(c.toNat : Int)| ≤ (2 ^ w - 1 : Nat) := by
  have hlt := c.isLt
  rw [Nat.abs_cast]
  omega

variable (hw : w = 8 ∨ w = 16)

include hw

/-- The scales at the two element widths (00_scope R16). -/
theorem scales_range : 0 < 2 ^ (w - 1) - 1 ∧ 2 ^ (w - 1) ≤ 65535 ∧ 0 < 2 ^ w - 1 ∧ 2 ^ w - 1 ≤ 65535 := by
  rcases hw with rfl | rfl <;> decide

/-- A field is an integer of at most 16 bits, whether it is read with a sign or without. -/
theorem abs_field_le : |c.toInt| ≤ 65535 ∧ |(c.toNat : Int)| ≤ 65535 := by
  obtain ⟨-, hsigned, -, hunsigned⟩ := scales_range hw
  have hweight := signWeight_eq w
  have hlo := BitVec.le_toInt c
  have hhi := BitVec.toInt_lt (x := c)
  exact ⟨abs_le.mpr ⟨by omega, by omega⟩, (abs_toNat_le c).trans (by exact_mod_cast hunsigned)⟩

theorem decSNorm_range : isFinite (decSNorm w c) = true ∧ decSNorm w c ≠ 0x80000000 ∧
    -(one : Int) ≤ value (decSNorm w c) ∧ value (decSNorm w c) ≤ one := by
  have hw0 : 0 < w := by omega
  by_cases hc : c.toInt = -2 ^ (w - 1)
  · rw [decSNorm_of_min c hw0 hc]
    decide +kernel
  · obtain ⟨hpos, hle, -, -⟩ := scales_range hw
    rw [decSNorm_of_ne_min c hw0 hc]
    obtain ⟨hfin, hne, -, hrange⟩ := fdiv32_i2f32_range (abs_toInt_le_of_ne_min c hc) hpos (by omega)
    exact ⟨hfin, hne, hrange⟩

theorem decUNorm_range : isFinite (decUNorm w c) = true ∧ decUNorm w c ≠ 0x80000000 ∧
    0 ≤ value (decUNorm w c) ∧ value (decUNorm w c) ≤ one := by
  obtain ⟨-, -, hpos, hle⟩ := scales_range hw
  rw [decUNorm_eq]
  obtain ⟨hfin, hne, hnonneg, -, hupper⟩ := fdiv32_i2f32_range (abs_toNat_le c) hpos hle
  exact ⟨hfin, hne, hnonneg (Int.natCast_nonneg _), hupper⟩

end Fields

/-- Settles O53: both raw decodes convert an integer of at most 16 bits. -/
theorem decRawIsExact : Obligations.DecRawIsExact := by
  intro w hw c
  obtain ⟨hsigned, hunsigned⟩ := abs_field_le c hw
  obtain ⟨hsfin, hsval⟩ := i2f32_exact hsigned
  obtain ⟨hufin, huval⟩ := i2f32_exact hunsigned
  rw [decRawSigned, widenS_eq w (by omega), decRawUnsigned, widenU]
  exact ⟨hsfin, hsval, i2f32_ne_negZero hsigned, hufin, huval, i2f32_ne_negZero hunsigned⟩

/-- Settles O54: both normalized decodes round a quotient of integers once, and the most negative field is apart. -/
theorem decNormIsTheNearestQuotient : Obligations.DecNormIsTheNearestQuotient := by
  intro w hw c
  have hw0 : 0 < w := by omega
  obtain ⟨hspos, hsle, hupos, hule⟩ := scales_range hw
  obtain ⟨hsigned, hunsigned⟩ := abs_field_le c hw
  have hweight := signWeight_eq w
  have hquotient (hc : c.toInt ≠ -2 ^ (w - 1)) := decSNorm_of_ne_min c hw0 hc
  have hunit (hc : c.toInt.natAbs = 2 ^ (w - 1) - 1) := fdiv32_i2f32_unit hc hspos (by omega)
  obtain ⟨husign, huround⟩ := fdiv32_i2f32_roundsTo hunsigned hupos hule
  refine ⟨decSNorm_of_min c hw0, fun hc => ?_, fun hc => ?_, fun hc => ?_, ?_, ?_, fun hc => ?_⟩
  · rw [hquotient hc]
    exact fdiv32_i2f32_roundsTo hsigned hspos (by omega)
  · rw [hquotient (by omega), hunit (by omega), if_neg (by omega)]
  · rw [hquotient (by omega), hunit (by omega), if_pos (by omega)]
  · rw [decUNorm_eq, husign]
    exact decide_eq_false (by omega)
  · rwa [decUNorm_eq]
  · rw [decUNorm_eq, fdiv32_i2f32_unit (by omega) hupos hule, if_neg (by omega)]

/-- Settles O56: the raw decodes are exact, and a fraction of magnitude at most 1 decodes into the unit interval. -/
theorem decodedValuesStayInRange : Obligations.DecodedValuesStayInRange := by
  intro f c hf
  have hw := format_bits f
  obtain ⟨hsfin, hsval, hsne, hufin, huval, hune⟩ := decRawIsExact f.bits hw c
  have hscaled {a b : Int} (h : a ≤ b) : a * (one : Int) ≤ b * one := mul_le_mul_of_nonneg_right h (by decide)
  unfold decLane
  cases hfam : f.family with
  | rawUnsigned =>
    have hlt : (c.toNat : Int) < 2 ^ f.bits := by exact_mod_cast c.isLt
    refine ⟨hufin, hune, fun _ => ?_, nofun, nofun, nofun⟩
    rw [huval]
    exact ⟨by positivity, hscaled (by omega)⟩
  | rawSigned =>
    have hlt := BitVec.toInt_lt (x := c)
    refine ⟨hsfin, hsne, nofun, fun _ => ?_, nofun, nofun⟩
    rw [hsval]
    exact ⟨hscaled (BitVec.le_toInt c), hscaled (by omega)⟩
  | unsignedNorm =>
    obtain ⟨hfin, hne, hrange⟩ := decUNorm_range c hw
    exact ⟨hfin, hne, nofun, nofun, fun _ => hrange, nofun⟩
  | signedNorm =>
    obtain ⟨hfin, hne, hrange⟩ := decSNorm_range c hw
    exact ⟨hfin, hne, nofun, nofun, nofun, fun _ => hrange⟩
  | half => contradiction

end Sys2Proof.Machine
end

section
/-!
PROOFS. `DecHalf` (43_decode R207): the fields of the half as a number, wider in the lane.
-/

namespace Sys2Proof.Machine

/-- A lane is its sign above its exponent and fraction fields. -/
theorem toNat_eq_fields (x : Lane) :
    x.toNat = (signBit x).toNat * 2 ^ 31 + (expField x * 2 ^ 23 + fracField x) := by
  have hlt : x.toNat < 2 ^ 32 := x.isLt
  rw [← toNat_mod_eq_fields, signBit_eq]
  by_cases h : 2 ^ 31 ≤ x.toNat <;> simp only [h, decide_true, decide_false, Bool.toNat_true, Bool.toNat_false] <;>
    omega

/-- The sign bit of a half above its other fields. -/
theorem half_sign_fields (h : BitVec 16) : h.toNat / 2 ^ 15 = (h.getLsbD 15).toNat ∧
    h.toNat % 2 ^ 15 = halfExp h * 2 ^ 10 + halfFrac h := by
  have hexp := halfExp_lt h
  have hfrac := halfFrac_lt h
  obtain ⟨hdiv, hmod⟩ := halfSign_div (h.getLsbD 15) (n := halfExp h * 2 ^ 10 + halfFrac h) (by omega)
  rw [← half_toNat] at hdiv hmod
  refine ⟨hdiv.trans ?_, hmod⟩
  cases h.getLsbD 15 <;> rfl

/-- The value of a half from its sign and its fields. -/
theorem halfValue_eq (h : BitVec 16) :
    halfValue h = signedNat (h.getLsbD 15) (patternMagnitude 10 (halfExp h * 2 ^ 10 + halfFrac h)) := by
  rw [halfValue, (half_sign_fields h).2]
  rfl

/-- Settles O55: a half of exponent 31 keeps its fields, and any other keeps its sign and its magnitude. -/
theorem decHalfIsExact : Obligations.DecHalfIsExact := by
  refine fun h => ⟨fun he => ?_, fun he => ?_⟩
  · obtain ⟨hsign, hexp, hfrac⟩ := decHalf_of_exp_max he
    rw [toNat_eq_fields, hsign, hexp, hfrac, (half_sign_fields h).1, halfFrac]
    ring
  · obtain ⟨hfin, hsign, hmag⟩ := decHalf_of_finite he
    refine ⟨hfin, hsign, ?_⟩
    rw [value_eq_signedNat, hsign, hmag, halfValue_eq, signedNat_mul]
    rfl

end Sys2Proof.Machine
end

section
/-!
PROOFS. DEC (43_decode R200, R201, R226) and the raw round trip (R228): DEC answers the lane function of each field, and a
component that PACK stored whole is the integer DEC converts.
-/

namespace Sys2Proof.Machine

/-- Settles O32: DEC responds with its lanes. -/
theorem decUnscalesEachField : Obligations.DecUnscalesEachField := fun f s =>
  ⟨(Operation.dec f).encode_noLen, _, exec_dec f s, answersFields_respondFields _ s (by decide) (format_lanes_fit f)⟩

/-- DEC after PACK answers, lane by lane, the lane function of the component stored. -/
theorem lane_dec_pack {f : Format} {i : Nat} (hi : i < f.arity) (a b c b' c' : Bus) :
    lane (answer (command (.dec f) (answer (command (.pack f) a b c)).data b' c')).data i =
      decLane f (storeInt f.bits (lane a i)) := by
  rw [answer_dec, lane_packFields hi, answer_pack, field_packFields hi]

section Components

variable {f : Format} (x : Lane)

/-- A component that holds an unsigned lane whole stands for the lane's number. -/
theorem componentInt_storeInt_of_unsigned (hs : f.signed = false) (hx : x.toNat < 2 ^ f.bits) :
    componentInt f (storeInt f.bits x) = x.toNat := by
  rw [componentInt_of_unsigned hs, storeInt_toNat, Nat.mod_eq_of_lt hx]

/-- A component that holds a signed lane whole stands for the lane's integer. -/
theorem componentInt_storeInt_of_signed (hs : f.signed = true) (hlo : -(2 ^ (f.bits - 1) : Int) ≤ x.toInt)
    (hhi : x.toInt < 2 ^ (f.bits - 1)) : componentInt f (storeInt f.bits x) = x.toInt := by
  have hread := readComponent_storeInt_of_signed x hs hlo hhi
  rw [readComponent_of_signed _ hs] at hread
  rw [componentInt_of_signed hs, ← readSigned_toInt _ (format_bits_lt_lane f).le, hread]

/-- A raw format decodes a field to exactly the integer it stands for. -/
theorem decLane_of_raw_exact (hraw : f.family = .rawSigned ∨ f.family = .rawUnsigned) (c : BitVec f.bits) :
    isFinite (decLane f c) = true ∧ value (decLane f c) = componentInt f c * one := by
  obtain ⟨hsigned, hunsigned⟩ := abs_field_le c (format_bits f)
  rw [decLane_of_raw hraw]
  refine i2f32_exact ?_
  unfold componentInt
  split
  · exact hsigned
  · exact hunsigned

end Components

/-- Settles O58: PACK stores the integer whole, and DEC converts what was stored. -/
theorem rawComponentsRoundTrip : Obligations.RawComponentsRoundTrip := by
  intro f a b c b' c' i hi
  dsimp only
  rw [lane_dec_pack hi]
  refine ⟨fun hraw hx => ?_, fun hraw hlo hhi => ?_⟩
  · have hs : f.signed = false := by simp [Format.signed, hraw]
    rw [← componentInt_storeInt_of_unsigned _ hs hx]
    exact decLane_of_raw_exact (.inr hraw) _
  · have hs : f.signed = true := by simp [Format.signed, hraw]
    rw [← componentInt_storeInt_of_signed _ hs hlo hhi]
    exact decLane_of_raw_exact (.inl hraw) _

end Sys2Proof.Machine
end

section
/-!
PROOFS. Errors and responses as the host sees them (60_exceptions R242, R257): which instruction raises an error, and which
edge delivers a response or leaves the block idle.
-/

namespace Sys2Proof.Machine

/-- An outcome has at most one next state. -/
theorem next_unique {o : Host.Outcome State Fault Refusal} {s t : State} (hs : o = .next s) (ht : o = .next t) :
    s = t :=
  Host.Outcome.next.inj (hs.symm.trans ht)

/-! Errors (60_exceptions R242; 30_encoding R70). -/

/-- A completed operation is no error: the status tells them apart. -/
theorem respond_ok_ne_raise (r : Bus) (e : Cause) (s : State) : respond .ok r s ≠ raise e s := by
  intro h
  have hstatus : Status.ok.code = e.status.code := congrArg State.rspStatus h
  cases e <;> exact absurd hstatus (by decide)

/-- A short ENCS raises, before any lane is read (42_encode R190). -/
theorem exec_encs_of_short {len : Nat} {f : Format} (h : len < f.arity) (s : State) :
    exec (.encs len f) s = .next (raise .invalidArgument s) := by
  rw [exec_encs, lengthChecked, if_pos h]

/-- Only a short ENCS raises: the other operations, and an ENCS with enough elements, respond with `OK`. -/
theorem exec_eq_raise_iff {i : Instr} {s : State} :
    exec i s = .next (raise .invalidArgument s) ↔ ∃ f len, i = .encs len f ∧ len < f.arity := by
  constructor
  · intro h
    obtain ⟨c, hop⟩ := exists_operation i
    cases hop with
    | encs len f =>
      obtain ⟨hlen, -⟩ | ⟨-, henc⟩ := lengthChecked_cases f.arity len (exec (.enc f) s) s
      · exact ⟨f, len, rfl, hlen⟩
      · rw [exec_encs, henc, exec_enc] at h
        exact absurd (next_unique rfl h) (respond_ok_ne_raise _ _ s)
    | fromp f | pack f | unpack f | enc f | dec f | cmpeq f =>
      simp only [exec_fromp, exec_pack, exec_unpack, exec_enc, exec_dec, exec_cmpeq] at h
      exact absurd (next_unique rfl h) (respond_ok_ne_raise _ _ s)
    | vclamp n | vround n | vtrunc n | vsat n | vmadd n =>
      simp only [exec_vclamp, exec_vround, exec_vtrunc, exec_vsat, exec_vmadd] at h
      exact absurd (next_unique rfl h) (respond_ok_ne_raise _ _ s)
  · rintro ⟨f, len, rfl, hlen⟩
    exact exec_encs_of_short hlen s

/-- Settles O10: an instruction responds with `OK` or raises `INVALID_ARGUMENT`, and only a short ENCS raises. -/
theorem statusOfEveryInstruction : Obligations.StatusOfEveryInstruction := by
  intro i s t hexec
  rw [← exec_eq_raise_iff (s := s)]
  obtain ⟨r, hok⟩ | hraise := exec_ok_or_invalidArgument i s
  · obtain rfl : respond .ok r s = t := next_unique hok hexec
    have hne : (respond .ok r s).rspStatus ≠ 1 := by rw [respond_rspStatus]; decide
    exact ⟨⟨fun h => absurd h hne, fun h => absurd (next_unique hok h) (respond_ok_ne_raise r _ s)⟩,
      .inl (respond_rspStatus .ok r s), fun h => absurd h hne⟩
  · obtain rfl : raise .invalidArgument s = t := next_unique hraise hexec
    have hstatus : (raise .invalidArgument s).rspStatus = 1 := raise_rspStatus .invalidArgument s
    exact ⟨⟨fun _ => hraise, fun _ => hstatus⟩, .inr hstatus, fun _ => raise_rspData .invalidArgument s⟩

/-! Responses delivered (60_exceptions R257; 70_reset_and_hazards R279). -/

/-- Running the latched word presents a response; it neither delivers one nor touches the parameter `LATENCY`. -/
theorem runLatched_latency_taken {s t : State} (h : runLatched s = .next t) :
    t.latency = s.latency ∧ t.taken = s.taken := by
  obtain ⟨st, r, hrun⟩ := runLatched_eq_respond s.latch
  obtain rfl : respond st r s = t := next_unique (hrun s rfl) h
  exact ⟨respond_latency st r s, respond_taken st r s⟩

/-- Settles O21, by the cases of an edge: only the taking edge appends to the responses taken. -/
theorem outcomeGrowsOnlyByATakenResponse : Obligations.OutcomeGrowsOnlyByATakenResponse := by
  intro s t hstep
  rcases step_cases hstep with ⟨-, rfl⟩ | ⟨hrst, hvalid, hready, rfl⟩ | ⟨-, -, -, rfl⟩ | ⟨-, -, -, -, u, hrun, rfl⟩ |
    ⟨-, -, -, -, rfl⟩ | ⟨-, -, -, -, rfl⟩ | ⟨-, -, -, -, rfl⟩ <;> rw [hostDrives_latency, hostDrives_taken]
  · exact ⟨resetEdge_latency s, .inl (resetEdge_taken s)⟩
  · exact ⟨takeEdge_latency s, .inr ⟨hrst, hvalid, hready, takeEdge_taken s⟩⟩
  · exact ⟨rfl, .inl rfl⟩
  · obtain ⟨hlatency, htaken⟩ := runLatched_latency_taken hrun
    exact ⟨hlatency, .inl htaken⟩
  · exact ⟨waitEdge_latency s, .inl (waitEdge_taken s)⟩
  · exact ⟨acceptEdge_latency s, .inl (acceptEdge_taken s)⟩
  · exact ⟨idleEdge_latency s, .inl (idleEdge_taken s)⟩

/-- Settles O17: the edge is the idle one. -/
theorem nothingAcceptedWithoutAValidRequest : Obligations.NothingAcceptedWithoutAValidRequest :=
  fun s hrst hreq hbusy hvalid => ⟨_, step_idle hrst hvalid hbusy hreq, idleEdge_busy s, idleEdge_rspValid s,
    idleEdge_taken s⟩

end Sys2Proof.Machine
end

section
/-!
PROOFS. Single edges (70_reset_and_hazards R270 to R279; 10_state R22, R23): every edge has a next state, the host drives its
next levels after each, and what an edge does to a reset, a held, a busy and a not yet answered transaction.
-/

namespace Sys2Proof.Machine

section Edges

variable {s t : State}

/-- A state looks like itself. -/
theorem SameView.refl (s : State) : SameView s s :=
  ⟨rfl, rfl, rfl, rfl, rfl, rfl, fun _ => ⟨rfl, rfl⟩, fun _ => ⟨rfl, rfl⟩⟩

/-- Every kind of edge has a next state: the kinds are those `SameView.step` goes through. -/
theorem step_next (s : State) : ∃ t, step s = .next t := by
  obtain ⟨t, -, ht, -, -⟩ := (SameView.refl s).step
  exact ⟨t, ht⟩

/-- Running the latched word is presenting the answer to the latched request, and nothing more. -/
theorem exists_respond_of_runLatched (h : runLatched s = .next t) :
    ∃ st r, t = respond st r s ∧ answer s.latch = ⟨st.code, r⟩ := by
  obtain ⟨st, r, hrun⟩ := runLatched_eq_respond s.latch
  exact ⟨st, r, next_unique h (hrun s rfl), answer_of_runLatched (hrun _ rfl)⟩

/-- The due edge presents the answer to the latched request, in every state that holds this request. -/
theorem step_due (q : Request) :
    ∃ st r, answer q = ⟨st.code, r⟩ ∧ ∀ s : State, s.latch = q → s.pins.rst = false → s.rspValid = false →
      s.busy = true → s.due = true → step s = .next (hostDrives (respond st r s)) := by
  obtain ⟨st, r, hrun⟩ := runLatched_eq_respond q
  refine ⟨st, r, answer_of_runLatched (hrun _ rfl), fun s hq hrst hvalid hbusy hdue => ?_⟩
  rw [step_run hrst hvalid hbusy hdue, hrun s hq]
  rfl

/-- Whatever the edge does to the block, the host then drives its next levels (60_exceptions R257). -/
theorem step_levels (h : step s = .next t) : t.pins = s.moves.headD s.pins ∧ t.moves = s.moves.tail := by
  rcases step_cases h with ⟨-, rfl⟩ | ⟨-, -, -, rfl⟩ | ⟨-, -, -, rfl⟩ | ⟨-, -, -, -, u, hrun, rfl⟩ |
    ⟨-, -, -, -, rfl⟩ | ⟨-, -, -, -, rfl⟩ | ⟨-, -, -, -, rfl⟩
  · exact ⟨rfl, rfl⟩
  · exact ⟨rfl, rfl⟩
  · exact ⟨rfl, rfl⟩
  · obtain ⟨st, r, rfl, -⟩ := exists_respond_of_runLatched hrun
    exact ⟨rfl, rfl⟩
  · exact ⟨rfl, rfl⟩
  · exact ⟨rfl, rfl⟩
  · exact ⟨rfl, rfl⟩

/-- While the host has a move left, the levels after the edge are its script from that move on. -/
theorem levels_of_step (h : step s = .next t) (hmoves : s.moves ≠ []) : t.pins :: t.moves = s.moves := by
  obtain ⟨hpins, htail⟩ := step_levels h
  obtain ⟨m, ms, hm⟩ := List.exists_cons_of_ne_nil hmoves
  rw [hpins, htail, hm]
  rfl

end Edges

/-- Settles O6: every kind of edge has a next state. -/
theorem stepNeverStops : Obligations.StepNeverStops := step_next

/-- Settles O13: the edge is the reset edge, which comes before all others. -/
theorem resetEdgeDropsTheTransaction : Obligations.ResetEdgeDropsTheTransaction := by
  intro s hrst
  have hready : (hostDrives (resetEdge s)).reqReady = true := by
    rw [State.reqReady, hostDrives_busy, resetEdge_busy]; rfl
  exact ⟨_, step_reset hrst, resetEdge_busy s, resetEdge_rspValid s, hready, resetEdge_taken s, resetEdge_latency s,
    hostDrives_pins _, hostDrives_moves _⟩

/-- Settles O18: the edge is the holding one, after which only the host moves. -/
theorem presentedResponseIsHeld : Obligations.PresentedResponseIsHeld :=
  fun _ hrst hvalid hready => ⟨_, step_hold hrst hvalid hready, rfl⟩

/-- Settles O20, by the cases of an edge: the reset edge and the taking edge free the block, the holding, the due and the
waiting edge keep the latch, and a busy block has no accepting and no idle edge. -/
theorem busyBlockAcceptsNothing : Obligations.BusyBlockAcceptsNothing := by
  intro s t hbusy hstep
  rcases step_cases hstep with ⟨-, rfl⟩ | ⟨-, -, -, rfl⟩ | ⟨-, -, -, rfl⟩ | ⟨-, -, -, -, u, hrun, rfl⟩ |
    ⟨-, -, -, -, rfl⟩ | ⟨-, -, hfree, -⟩ | ⟨-, -, hfree, -⟩
  · exact .inl (resetEdge_busy s)
  · exact .inl (takeEdge_busy s)
  · exact .inr ⟨hbusy, rfl, rfl⟩
  · obtain ⟨st, r, rfl, -⟩ := exists_respond_of_runLatched hrun
    exact .inr ⟨hbusy, respond_latch st r s, respond_taken st r s⟩
  · exact .inr ⟨hbusy, waitEdge_latch s, waitEdge_taken s⟩
  · rw [hbusy] at hfree; cases hfree
  · rw [hbusy] at hfree; cases hfree

/-- Settles O22: while no response is presented, `rsp_ready` does not choose the kind of edge, and no kind of edge but the
taking one reads it. -/
theorem presentationIgnoresRspReady : Obligations.PresentationIgnoresRspReady := by
  intro s b hvalid
  obtain hrst | hrst := Bool.eq_false_or_eq_true s.pins.rst
  · exact ⟨_, _, step_reset hrst, step_reset hrst, rfl⟩
  obtain hbusy | hbusy := Bool.eq_false_or_eq_true s.busy
  · obtain hdue | hdue := Bool.eq_false_or_eq_true s.due
    · obtain ⟨st, r, -, hstep⟩ := step_due s.latch
      exact ⟨_, _, hstep s rfl hrst hvalid hbusy hdue, hstep _ rfl hrst hvalid hbusy hdue, rfl⟩
    · exact ⟨_, _, step_wait hrst hvalid hbusy hdue, step_wait hrst hvalid hbusy hdue, rfl⟩
  · obtain hreq | hreq := Bool.eq_false_or_eq_true s.pins.reqValid
    · exact ⟨_, _, step_accept hrst hvalid hbusy hreq, step_accept hrst hvalid hbusy hreq, rfl⟩
    · exact ⟨_, _, step_idle hrst hvalid hbusy hreq, step_idle hrst hvalid hbusy hreq, rfl⟩

end Sys2Proof.Machine
end

section
/-!
PROOFS. Runs of edges (70_reset_and_hazards R270 to R279): how runs compose, what the host's script says of the levels along
a run, a request from acceptance to its answer, and a list of requests one after the other.
-/

namespace Sys2Proof.Machine

section Runs

variable {s t : State}

theorem run_succ {n : Nat} (h : step s = .next t) : run (n + 1) s = run n t := by
  rw [run, h]

/-- A run goes on from where its first part ends. -/
theorem run_add {m n : Nat} (h : run m s = .next t) : run (m + n) s = run n t := by
  induction m generalizing s with
  | zero =>
    obtain rfl : s = t := next_unique rfl h
    rw [Nat.zero_add]
  | succ m ih =>
    obtain ⟨u, hu⟩ := step_next s
    rw [run_succ hu] at h
    rw [Nat.add_right_comm, run_succ hu, ih h]

/-- Two states of the same view run to states of the same view. -/
theorem SameView.run (h : SameView s t) (n : Nat) :
    ∃ s' t', run n s = .next s' ∧ run n t = .next t' ∧ SameView s' t' := by
  induction n generalizing s t with
  | zero => exact ⟨s, t, rfl, rfl, h⟩
  | succ n ih =>
    obtain ⟨u, v, hu, hv, huv⟩ := h.step
    obtain ⟨s', t', hs', ht', hview⟩ := ih huv
    exact ⟨s', t', (run_succ hu).trans hs', (run_succ hv).trans ht', hview⟩

/-- The levels sampled along a run are those of the host's script, in order. -/
theorem run_levels {before after : List Pins} {p : Pins} (hscript : s.pins :: s.moves = before ++ p :: after)
    (h : run before.length s = .next t) : t.pins = p ∧ t.moves = after := by
  induction before generalizing s with
  | nil =>
    obtain rfl : s = t := next_unique rfl h
    exact List.cons.inj hscript
  | cons a before ih =>
    obtain ⟨u, hu⟩ := step_next s
    obtain ⟨-, hmoves⟩ : s.pins = a ∧ s.moves = before ++ p :: after := List.cons.inj hscript
    refine ih ?_ ((run_succ hu).symm.trans h)
    rw [levels_of_step hu (by simp [hmoves]), hmoves]

theorem rst_of_resetLow {n : Nat} (h : resetLow (n + 1) s) : s.pins.rst = false :=
  h s.pins (by simp)

/-- An edge leaves `rst` low at the others: they sample the host's moves, or the same levels again when it has none. -/
theorem resetLow_of_step {n : Nat} (hstep : step s = .next t) (h : resetLow (n + 1) s) : resetLow n t := by
  intro p hp
  by_cases hmoves : s.moves = []
  · obtain ⟨hpins, htail⟩ := step_levels hstep
    rw [hpins, htail, hmoves] at hp
    obtain rfl : p = s.pins := List.mem_singleton.mp (List.mem_of_mem_take hp)
    exact rst_of_resetLow h
  · rw [levels_of_step hstep hmoves] at hp
    exact h p (List.mem_cons_of_mem _ hp)

/-- `t` is `s` after `k` waiting edges: the same request is in flight, not yet answered, and `k` more edges are counted. -/
structure WaitedFrom (k : Nat) (s t : State) : Prop where
  busy : t.busy = true
  rspValid : t.rspValid = false
  latch : t.latch = s.latch
  elapsed : t.elapsed = s.elapsed + k
  latency : t.latency = s.latency
  taken : t.taken = s.taken

/-- A request in flight waits until its last edge before `LATENCY` (70_reset_and_hazards R277); `rst` stays low at the edges
after, as at these. -/
theorem run_waiting {k n : Nat} (hbusy : s.busy = true) (hvalid : s.rspValid = false) (hlow : resetLow (k + n) s)
    (hk : k < max 1 (s.latency - s.elapsed)) :
    ∃ t, run k s = .next t ∧ WaitedFrom k s t ∧ resetLow n t := by
  induction k generalizing s with
  | zero => exact ⟨s, rfl, ⟨hbusy, hvalid, rfl, rfl, rfl, rfl⟩, Nat.zero_add n ▸ hlow⟩
  | succ k ih =>
    rw [Nat.add_right_comm] at hlow
    have hstep : step s = .next (hostDrives (waitEdge s)) :=
      step_wait (rst_of_resetLow hlow) hvalid hbusy (due_eq_false_iff.mpr (by omega))
    have hk' : k < max 1 (s.latency - (s.elapsed + 1)) := by omega
    obtain ⟨t, hrun, hwaited, hlow'⟩ := ih (s := hostDrives (waitEdge s)) hbusy rfl (resetLow_of_step hstep hlow) hk'
    refine ⟨t, (run_succ hstep).trans hrun, { hwaited with elapsed := ?_ }, hlow'⟩
    rw [hwaited.elapsed, hostDrives_elapsed, waitEdge_elapsed, Nat.add_right_comm, Nat.add_assoc]

/-- `t` presents the answer to the request in flight in `s`. -/
structure Answered (s t : State) : Prop where
  busy : t.busy = true
  rspValid : t.rspValid = true
  latch : t.latch = s.latch
  latency : t.latency = s.latency
  response : (⟨t.rspStatus, t.rspData⟩ : Response) = answer s.latch
  taken : t.taken = s.taken

/-- A request in flight is answered when its edges have passed: it waits through all but the last, which is the due edge. -/
theorem run_answers {n : Nat} (hn : max 1 (s.latency - s.elapsed) = n) (hbusy : s.busy = true)
    (hvalid : s.rspValid = false) (hlow : resetLow n s) : ∃ t, run n s = .next t ∧ Answered s t := by
  obtain ⟨k, rfl⟩ : ∃ k, n = k + 1 := Nat.exists_eq_add_one.mpr (by omega)
  obtain ⟨u, hrun, hwaited, hlow'⟩ := run_waiting (n := 1) hbusy hvalid hlow (by omega)
  have hdue : u.due = true := by
    rw [due_eq_true_iff, hwaited.latency, hwaited.elapsed]
    omega
  obtain ⟨st, r, hanswer, hstep⟩ := step_due s.latch
  have hlast := hstep u hwaited.latch (rst_of_resetLow hlow') hwaited.rspValid hwaited.busy hdue
  exact ⟨_, (run_add hrun).trans (run_succ hlast), hwaited.busy, rfl, hwaited.latch, hwaited.latency, hanswer.symm,
    hwaited.taken⟩

/-- The levels of a host that presents `q` and is ready to take a response. -/
def offers (q : Request) : Pins := { rst := false, reqValid := true, req := q, rspReady := true }

/-- A script of requests is the edges of the first transaction, then those of the others. -/
theorem hostScript_cons (latency : Nat) (q : Request) (qs : List Request) :
    hostScript latency (q :: qs) = List.replicate (latency + 2) (offers q) ++ hostScript latency qs := rfl

/-- A host that offers a request for the next edges keeps `rst` low at them. -/
theorem resetLow_of_offers {n : Nat} {q : Request} {rest : List Pins}
    (hscript : s.pins :: s.moves = List.replicate n (offers q) ++ rest) : resetLow n s := by
  intro p hp
  rw [hscript, List.take_left' List.length_replicate] at hp
  rw [List.eq_of_mem_replicate hp]
  rfl

/-- `t` is idle again after a transaction that began in `s` and whose request was `q`; the host has `rest` left to drive. -/
structure Completed (q : Request) (rest : List Pins) (s t : State) : Prop where
  busy : t.busy = false
  rspValid : t.rspValid = false
  latency : t.latency = s.latency
  taken : t.taken = s.taken ++ [answer q]
  script : rest ≠ [] → t.pins :: t.moves = rest

/-- A request just accepted is answered after `LATENCY` edges, and its response is taken at the next one. -/
theorem run_accepted {q : Request} {rest : List Pins} (hbusy : s.busy = true) (hvalid : s.rspValid = false)
    (helapsed : s.elapsed = 0) (hlatency : 1 ≤ s.latency)
    (hscript : s.pins :: s.moves = List.replicate s.latency (offers q) ++ offers q :: rest) :
    ∃ t, run (s.latency + 1) s = .next t ∧ Completed s.latch rest s t := by
  obtain ⟨u, hrun, hanswered⟩ := run_answers (by omega) hbusy hvalid (resetLow_of_offers hscript)
  obtain ⟨hpins, hmoves⟩ : u.pins = offers q ∧ u.moves = rest :=
    run_levels hscript (by rw [List.length_replicate, hrun])
  have htake : step u = .next (hostDrives (takeEdge u)) :=
    step_take (by rw [hpins]; rfl) hanswered.rspValid (by rw [hpins]; rfl)
  refine ⟨_, (run_add hrun).trans (run_succ htake), rfl, rfl, hanswered.latency, ?_, fun hrest => ?_⟩
  · rw [hostDrives_taken, takeEdge_taken, hanswered.taken, hanswered.response]
  · rw [← hmoves] at hrest ⊢
    exact levels_of_step htake hrest

/-- One transaction, from idle to idle: the accepting edge, the edges to the answer, the taking edge. -/
theorem run_transaction {q : Request} {rest : List Pins} (hbusy : s.busy = false) (hvalid : s.rspValid = false)
    (hlatency : 1 ≤ s.latency) (hscript : s.pins :: s.moves = List.replicate (s.latency + 2) (offers q) ++ rest) :
    ∃ t, run (s.latency + 2) s = .next t ∧ Completed q rest s t := by
  obtain ⟨hpins, hmoves⟩ : s.pins = offers q ∧ s.moves = List.replicate s.latency (offers q) ++ offers q :: rest := by
    rw [List.replicate_succ, List.replicate_succ', List.cons_append, List.append_assoc] at hscript
    exact List.cons.inj hscript
  have haccept : step s = .next (hostDrives (acceptEdge s)) :=
    step_accept (by rw [hpins]; rfl) hvalid hbusy (by rw [hpins]; rfl)
  have hlevels := levels_of_step haccept (by simp [hmoves])
  obtain ⟨t, hrun, hdone⟩ := run_accepted (s := hostDrives (acceptEdge s)) rfl rfl rfl hlatency (hlevels.trans hmoves)
  have hlatch : (hostDrives (acceptEdge s)).latch = q := by
    rw [hostDrives_latch, acceptEdge_latch, hpins]
    rfl
  exact ⟨t, (run_succ haccept).trans hrun, hdone.busy, hdone.rspValid, hdone.latency, hlatch ▸ hdone.taken, hdone.script⟩

end Runs

/-- Settles O14: the reset edge takes both states to idle ones, which look the same, and every run keeps the view. -/
theorem resetForgetsTheStateBefore : Obligations.ResetForgetsTheStateBefore := by
  intro n s t hpins hmoves hlatency htaken hrst
  have hview : SameView (hostDrives (resetEdge s)) (hostDrives (resetEdge t)) :=
    (sameView_goIdle hpins hmoves hlatency htaken).hostDrives
  obtain ⟨s', t', hs', ht', hview'⟩ := hview.run n
  exact ⟨s', t', (run_succ (step_reset hrst)).trans hs', (run_succ (step_reset (hpins ▸ hrst))).trans ht', hview'⟩

/-- Settles O23: the request waits through the edges before the last, and is answered at the last. -/
theorem responsePresentedAfterLatency : Obligations.ResponsePresentedAfterLatency := by
  intro s hbusy hvalid hlow
  refine ⟨fun k hk => ?_, ?_⟩
  · obtain ⟨n, hn⟩ := Nat.exists_eq_add_of_lt hk
    rw [hn, Nat.add_assoc] at hlow
    obtain ⟨t, hrun, hwaited, -⟩ := run_waiting hbusy hvalid hlow hk
    exact ⟨t, hrun, hwaited.busy, hwaited.rspValid, hwaited.latch⟩
  · obtain ⟨t, hrun, hanswered⟩ := run_answers rfl hbusy hvalid hlow
    exact ⟨t, hrun, hanswered.busy, hanswered.rspValid, hanswered.latch, hanswered.response⟩

/-- Settles O24, by induction on the requests after the first: each transaction appends its answer and leaves the block idle
with the rest of the script. -/
theorem runAnswersEveryRequestInOrder : Obligations.RunAnswersEveryRequestInOrder := by
  intro s q qs hbusy hvalid hlatency hscript
  induction qs generalizing s q with
  | nil =>
    rw [hostScript_cons] at hscript
    obtain ⟨t, hrun, hdone⟩ := run_transaction hbusy hvalid hlatency hscript
    exact ⟨t, by simpa using hrun, hdone.busy, hdone.rspValid, hdone.taken⟩
  | cons q' qs ih =>
    rw [hostScript_cons] at hscript
    obtain ⟨u, hfirst, hdone⟩ := run_transaction hbusy hvalid hlatency hscript
    have hscript' := hdone.script (by simp [hostScript_cons])
    rw [← hdone.latency] at hlatency hscript'
    obtain ⟨t, hrest, hbusy', hvalid', htaken⟩ := ih u q' hdone.busy hdone.rspValid hlatency hscript'
    refine ⟨t, ?_, hbusy', hvalid', by simp [htaken, hdone.taken]⟩
    calc run ((s.latency + 2) * (qs.length + 1 + 1)) s
        = run ((s.latency + 2) + (s.latency + 2) * (qs.length + 1)) s := by rw [Nat.mul_succ, Nat.add_comm]
      _ = run ((s.latency + 2) * (qs.length + 1)) u := run_add hfirst
      _ = .next t := by rw [← hdone.latency, hrest]

end Sys2Proof.Machine
end
